-- ==== Sys2Proof/Word.lean ====
section
/-! DEFINITION. The unit's value types (00_scope.md section 5.2, 30_encoding.md rules R45 and R46). All values are unsigned
bit strings, bit 0 the least significant; in a bit-polynomial bit `k` is the coefficient of `x^k` (20_memory.md rule R32). -/

namespace Sys2Proof

/-- `GF16`: a field element, bit `j` the coefficient of `x^j` of the residue modulo `x⁴+x+1` (R65). -/
abbrev GF16 := BitVec 4

/-- `LOGVAL`: a discrete logarithm, 0..14 (10_state.md rule R14). -/
abbrev LogVal := BitVec 4

/-- A minimal polynomial, or a candidate for one: 5 bits (10_state.md rule R15). -/
abbrev MinPoly := BitVec 5

/-- `BITPOLY`: a bit-polynomial register of W = 64 bits (R5). -/
abbrev BitPoly := BitVec 64

/-- `BITPOLY128`: a carry-less product (R5, R85). -/
abbrev BitPoly128 := BitVec 128

/-- One operand port or result port, 64 bits (R45, R46). -/
abbrev Port := BitVec 64

/-- `MSG`: a 5-bit message. -/
abbrev Msg := BitVec 5

/-- `CW`: a 15-bit codeword or received word (43_encoder.md rule R104). -/
abbrev Codeword := BitVec 15

/-- The 5-bit opcode field (R45). -/
abbrev Opcode := BitVec 5

/-- A command word: `op[132:128]`, `a[127:64]`, `b[63:0]` (R45). -/
abbrev CommandWord := BitVec 133

/-- A response word: `err[131:128]`, `r_hi[127:64]`, `r_lo[63:0]` (R46). -/
abbrev ResponseWord := BitVec 132

end Sys2Proof
end

