-- ==== Sys2Proof/Config.lean ====
section
/-! DEFINITION. The fixed parameters of the unit (00_scope.md rules R3 to R6). They are constants of the hardware, not arguments
("There are no extensions and no options", R1; no point is left open, 92_eei_decisions.md), and there is no free value: the only
results without a value are those of a refused command, which carry none (60_exceptions.md rule R155). -/

namespace Sys2Proof.Config

/-- `MODULUS = 0x13`, the polynomial `x⁴+x+1` (R4). -/
def modulus : BitVec 8 := 0x13#8

/-- `ALPHA = 2`, the primitive element, the polynomial `x` (R4). -/
def alpha : GF16 := 2#4

/-- `n = 15`, the codeword length in bits (R3). -/
def codewordBits : Nat := 15

/-- `n − k = 10`, the number of parity bits (R3). -/
def parityBits : Nat := 10

/-- `t = 3`, the number of correctable errors (R3). -/
def correctable : Nat := 3

/-- `2t = 6`, the number of syndromes (R3). -/
def syndromes : Nat := 6

end Sys2Proof.Config
end

