-- ==== Sys2Proof/Syntax.lean ====
section
/-! DEFINITION. The 21 commands of the unit (30_encoding.md rule R47), one constructor per row of spec/opcode_table.json, in the
table's order. Every command word has the two 64-bit operand ports `a` and `b` (R45); a port a command does not use is carried
too, because the unit looks at it: a non-zero bit there is an operand error (R49), and that check comes after the READY check
(60_exceptions.md rule R156), so it belongs to the command's meaning and not to decoding. -/

namespace Sys2Proof

/-- A command with its operand ports. -/
inductive Instr where
  /-- `INIT` (R100), format Z. -/
  | init (a b : Port)
  /-- `RDSTAT` (R145), format Z. -/
  | rdstat (a b : Port)
  /-- `RDGEN` (R146), format Z. -/
  | rdgen (a b : Port)
  /-- `RDRCP` (R147), format Z. -/
  | rdrcp (a b : Port)
  /-- `RDMINP i` (R148), format A. -/
  | rdminp (a b : Port)
  /-- `GFEXP i` (R75), format A. -/
  | gfexp (a b : Port)
  /-- `GFLOG v` (R76), format A. -/
  | gflog (a b : Port)
  /-- `GFADD x, y` (R77), format AB. -/
  | gfadd (a b : Port)
  /-- `GFSUB x, y` (R78), format AB. -/
  | gfsub (a b : Port)
  /-- `GFMUL x, y` (R79), format AB. -/
  | gfmul (a b : Port)
  /-- `GFDIV x, y` (R80), format AB. -/
  | gfdiv (a b : Port)
  /-- `GFPOW x, e` (R81), format AB. -/
  | gfpow (a b : Port)
  /-- `CLMUL x, y` (R88), format AB. -/
  | clmul (a b : Port)
  /-- `PRECIP d` (R89), format A. -/
  | precip (a b : Port)
  /-- `PDEG v` (R90), format A. -/
  | pdeg (a b : Port)
  /-- `ENCODE m` (R106), format A. -/
  | encode (a b : Port)
  /-- `SYND r` (R111), format A. -/
  | synd (a b : Port)
  /-- `KEYSOLVE S` (R127), format A. -/
  | keysolve (a b : Port)
  /-- `ROOTFIND L` (R133), format A. -/
  | rootfind (a b : Port)
  /-- `CORRECT w, O` (R135), format AB. -/
  | correct (a b : Port)
  /-- `DECODE r` (R137), format A. -/
  | decode (a b : Port)
  deriving DecidableEq, Repr

/-- The first operand port of a command (R45). -/
def Instr.portA : Instr → Port
  | .init a _ | .rdstat a _ | .rdgen a _ | .rdrcp a _ | .rdminp a _ | .gfexp a _ | .gflog a _
  | .gfadd a _ | .gfsub a _ | .gfmul a _ | .gfdiv a _ | .gfpow a _ | .clmul a _ | .precip a _
  | .pdeg a _ | .encode a _ | .synd a _ | .keysolve a _ | .rootfind a _ | .correct a _
  | .decode a _ => a

/-- The second operand port of a command (R45). -/
def Instr.portB : Instr → Port
  | .init _ b | .rdstat _ b | .rdgen _ b | .rdrcp _ b | .rdminp _ b | .gfexp _ b | .gflog _ b
  | .gfadd _ b | .gfsub _ b | .gfmul _ b | .gfdiv _ b | .gfpow _ b | .clmul _ b | .precip _ b
  | .pdeg _ b | .encode _ b | .synd _ b | .keysolve _ b | .rootfind _ b | .correct _ b
  | .decode _ b => b

end Sys2Proof
end

