-- ==== Sys2Proof/WellFormed.lean ====
section
/-! DEFINITION. Which commands are well-formed: the conditions on the operand ports that do not depend on the state
(30_encoding.md rules R49, R50, R53, R54), written in plain arithmetic over the ports read as numbers. The meanings test the same
conditions on bits (Machine/Operands.lean); that the two agree is a statement of the model. A command that is not well-formed is
still a command: it decodes, and the unit answers it with `ERR_OPERAND`. -/

namespace Sys2Proof

/-- The widths of the operands a command uses in ports `a` and `b`, 0 for an unused port (R50). -/
def Instr.operandWidths : Instr → Nat × Nat
  | .init .. | .rdstat .. | .rdgen .. | .rdrcp .. => (0, 0)
  | .rdminp .. => (3, 0)
  | .gfexp .. | .gflog .. => (4, 0)
  | .gfadd .. | .gfsub .. | .gfmul .. | .gfdiv .. | .gfpow .. => (4, 4)
  | .clmul .. => (64, 64)
  | .precip .. | .pdeg .. => (64, 0)
  | .encode .. => (5, 0)
  | .synd .. | .decode .. => (15, 0)
  | .keysolve .. => (24, 0)
  | .rootfind .. => (19, 0)
  | .correct .. => (15, 14)

/-- The `i`-th group of four bits of a port, as a number: element `i` of a packed vector (R52 to R54). -/
def nibbleNat (p : Port) (i : Nat) : Nat := p.toNat / 16 ^ i % 16

/-- An LVEC is valid when `1 ≤ size ≤ 4` and `L[i] = 0` for every `i ≥ size` (R53). -/
abbrev LvecValid (p : Port) : Prop :=
  1 ≤ p.toNat / 2 ^ 16 % 8 ∧ p.toNat / 2 ^ 16 % 8 ≤ 4 ∧
    ∀ i < 4, p.toNat / 2 ^ 16 % 8 ≤ i → nibbleNat p i = 0

/-- An OVEC is valid when `O[i] ≤ 14` for every `i < count` and `O[i] = 0` for every `i ≥ count` (R54). -/
abbrev OvecValid (p : Port) : Prop :=
  ∀ i < 3, if i < p.toNat / 2 ^ 12 % 4 then nibbleNat p i ≤ 14 else nibbleNat p i = 0

/-- The validity condition of a command's packed operand; `true` for a command that has none that can be invalid (R49). -/
def Instr.packedValid : Instr → Bool
  | .rootfind a _ => decide (LvecValid a)
  | .correct _ b => decide (OvecValid b)
  | _ => true

/-- No reserved operand bit is set, unused ports are zero, packed vectors are valid (R49). RDMINP's index bound depends on
`NMIN` and is no part of it. -/
abbrev Instr.WellFormed (i : Instr) : Prop :=
  i.portA.toNat < 2 ^ i.operandWidths.1 ∧ i.portB.toNat < 2 ^ i.operandWidths.2 ∧ i.packedValid = true

end Sys2Proof
end

