-- ==== Sys2Proof/Decode.lean ====
section
/-! DEFINITION. From a command word to a command and back (30_encoding.md rules R45, R47, R48). The decoder is total on all
2^133 command words and needs only `op`: "The operand bits never select a different command" (R47). -/

namespace Sys2Proof

/-- Why a command word is no command. -/
inductive DecodeError where
  /-- One of the 11 reserved opcodes (R48). -/
  | reservedOpcode (op : Opcode)
  deriving DecidableEq, Repr

/-- Field `op`, bits [132:128] of a command word (R45). -/
def CommandWord.op (w : CommandWord) : Opcode := w.extractLsb' 128 5

/-- Field `a`, bits [127:64] of a command word (R45). -/
def CommandWord.a (w : CommandWord) : Port := w.extractLsb' 64 64

/-- Field `b`, bits [63:0] of a command word (R45). -/
def CommandWord.b (w : CommandWord) : Port := w.extractLsb' 0 64

/-- The command with a given opcode and ports (R47), or the reserved opcode by name (R48). -/
def commandOf (op : Opcode) (a b : Port) : Except DecodeError Instr :=
  match op.toNat with
  | 0x01 => .ok (.init a b)
  | 0x02 => .ok (.rdstat a b)
  | 0x03 => .ok (.rdgen a b)
  | 0x04 => .ok (.rdrcp a b)
  | 0x05 => .ok (.rdminp a b)
  | 0x08 => .ok (.gfexp a b)
  | 0x09 => .ok (.gflog a b)
  | 0x0A => .ok (.gfadd a b)
  | 0x0B => .ok (.gfsub a b)
  | 0x0C => .ok (.gfmul a b)
  | 0x0D => .ok (.gfdiv a b)
  | 0x0E => .ok (.gfpow a b)
  | 0x10 => .ok (.clmul a b)
  | 0x11 => .ok (.precip a b)
  | 0x12 => .ok (.pdeg a b)
  | 0x18 => .ok (.encode a b)
  | 0x19 => .ok (.synd a b)
  | 0x1A => .ok (.keysolve a b)
  | 0x1B => .ok (.rootfind a b)
  | 0x1C => .ok (.correct a b)
  | 0x1D => .ok (.decode a b)
  | _ => .error (.reservedOpcode op)

/-- The command a command word stands for (R45, R47, R48). -/
def decode (w : CommandWord) : Except DecodeError Instr := commandOf w.op w.a w.b

/-- The opcode of a command (R47). -/
def Instr.opcode : Instr → Opcode
  | .init .. => 0x01#5
  | .rdstat .. => 0x02#5
  | .rdgen .. => 0x03#5
  | .rdrcp .. => 0x04#5
  | .rdminp .. => 0x05#5
  | .gfexp .. => 0x08#5
  | .gflog .. => 0x09#5
  | .gfadd .. => 0x0A#5
  | .gfsub .. => 0x0B#5
  | .gfmul .. => 0x0C#5
  | .gfdiv .. => 0x0D#5
  | .gfpow .. => 0x0E#5
  | .clmul .. => 0x10#5
  | .precip .. => 0x11#5
  | .pdeg .. => 0x12#5
  | .encode .. => 0x18#5
  | .synd .. => 0x19#5
  | .keysolve .. => 0x1A#5
  | .rootfind .. => 0x1B#5
  | .correct .. => 0x1C#5
  | .decode .. => 0x1D#5

/-- The command word of a command: `op ‖ a ‖ b` (R45). -/
def encode (i : Instr) : CommandWord := i.opcode ++ i.portA ++ i.portB

/-- The command word that the low `nbits` bits of `w` spell, numbered as spec/opcode_table.json numbers them (bit 0 the least
significant, `op` in bits 132 to 128), bits from `nbits` up being 0. A command word has 133 bits, the table rounds that up to
whole bytes, and a word with one of the bits 133 and up set is no command word (log entry 10). -/
def commandWordOfTable (nbits w : Nat) : Option CommandWord :=
  if w % 2 ^ nbits < 2 ^ 133 then some (BitVec.ofNat 133 (w % 2 ^ nbits)) else none

/-- The command the decoder reads from such a word (the host's question about the opcode table). -/
def decodeTableWord (nbits w : Nat) : Option Instr :=
  match commandWordOfTable nbits w with
  | none => none
  | some cw =>
    match decode cw with
    | .ok i => some i
    | .error _ => none

end Sys2Proof
end

