-- ==== Sys2Proof/Machine/State.lean ====
section
/-! DEFINITION. The state of the unit (10_state.md rule R12), what the host sees of it, and the reasons a step can stop.

An element or item that HOLDS NO VALUE is `none`. That is the spec's own state, not a missing reset value: R24 gives "holds no
value" as the reset value of the tables and constants, says "a model gives these items no number", an INIT that ends with
`ERR_CONFIG` brings the items back to it (R101), `LOG[0]` is in it "at any time" (R14), and so is `MINPOLY[i]` for every
i ≥ NMIN (R15). Log entry 1. No read of such an item is a fault: log entry 2. -/

namespace Sys2Proof.Machine

/-- The six error codes of 60_exceptions.md rule R154 ("a model's error type has exactly the 6 error constructors", U10). -/
inductive ErrCode where
  /-- `ERR_ILLEGAL_OP` = 1: a reserved opcode. -/
  | illegalOp
  /-- `ERR_NOT_READY` = 2: READY = 0 and the command needs the constants. -/
  | notReady
  /-- `ERR_OPERAND` = 3: a reserved operand bit, a non-zero unused port, an invalid packed vector, RDMINP's index. -/
  | operand
  /-- `ERR_DIV_ZERO` = 4: GFDIV or PRECIP by zero. -/
  | divZero
  /-- `ERR_ZERO_ARG` = 5: GFLOG 0, GFPOW with base 0, PDEG 0. -/
  | zeroArg
  /-- `ERR_CONFIG` = 6: INIT found no minimal polynomial. -/
  | config
  deriving DecidableEq, Repr

/-- The response to one command (R46, R153). A refused command has no results: `r_lo` and `r_hi` are unspecified and "A model
returns no result with a refusal" (R155). -/
inductive Response where
  /-- Completed, `err = OK`, with `r_lo` and `r_hi`. -/
  | done (lo hi : Port)
  /-- Refused with an error code. -/
  | refused (e : ErrCode)
  deriving DecidableEq, Repr

/-- One move of the environment: the host presents a command word (R45), or resets the unit between commands (R170). -/
inductive Input where
  | command (w : CommandWord)
  | reset
  deriving DecidableEq, Repr

/-- The two field tables, as the field procedures read them (R13, R14). -/
structure Tables where
  /-- `EXP[0..15]`. -/
  exp : Vector (Option GF16) 16
  /-- `LOG[0..15]`; `LOG[0]` is never written. -/
  log : Vector (Option LogVal) 16
  deriving DecidableEq, Repr

/-- The state: the eight items of R12, and two fields of the model's own for the two ports. -/
structure State where
  /-- `EXP[0..15]`, the exp table (R13). -/
  exp : Vector (Option GF16) 16
  /-- `LOG[0..15]`, the log table (R14). -/
  log : Vector (Option LogVal) 16
  /-- `MINPOLY[0..5]`, the minimal polynomial set (R15). -/
  minpoly : Vector (Option MinPoly) 6
  /-- `NMIN`, how many of them there are (R15). -/
  nmin : Option (BitVec 3)
  /-- `GEN`, the generator polynomial (R16). -/
  gen : Option BitPoly
  /-- `RECIP`, its reciprocal (R17). -/
  recip : Option BitPoly
  /-- `READY` (R18). -/
  ready : Bool
  /-- `CFGERR` (R18). -/
  cfgerr : Bool
  /-- The model's own: the move the host presents at the unit's ports now, `none` once the unit has taken it. It holds one move and
  no sequence: "One command is outstanding at a time" (R173), and the command sequence the host issues is a parameter and not state
  (R8; log entry 4). -/
  pending : Option Input
  /-- The model's own: the response port, holding the response of the last command (R10, R46; log entry 3). -/
  resp : Option Response
  deriving DecidableEq, Repr

/-- No step of the unit faults: every command ends completed or refused (R153), and a refusal is a response after which "The
unit stays operational" (R155). So there is no constructor. -/
inductive Fault where
  deriving DecidableEq, Repr

/-- Why the model has no meaning for a command. -/
inductive Refusal where
  /-- Raised only by an arm of `exec` for a command that has no meaning yet; no arm is such (safe: nothing can be proved of the
  command's effect). -/
  | notModelled (mnemonic : String)
  deriving DecidableEq, Repr

/-- The unit right after reset (R24, R170): READY = 0, CFGERR = 0, every other item holds no value, no response is pending.
Nothing is presented at the ports: the unit "waits for the first command" (log entry 4). -/
def State.reset : State where
  exp := Vector.replicate 16 none
  log := Vector.replicate 16 none
  minpoly := Vector.replicate 6 none
  nmin := none
  gen := none
  recip := none
  ready := false
  cfgerr := false
  pending := none
  resp := none

end Sys2Proof.Machine
end

