-- ==== Sys2Proof/Machine/Ops.lean ====
section
/-! DEFINITION. The named operations over the state: reading the tables, ending a command (completed or refused), reset, and
taking the move at the ports. Refusing a command is the whole of the unit's "trap entry" (60_exceptions.md rule R153): one
shared operation, `State.refuse`; there is no return from it, because nothing is saved and the next command simply executes
(R155, R161). -/

namespace Sys2Proof.Machine

/-- The result of executing a command. -/
abbrev Result := Host.Outcome State Fault Refusal

/-- The 4-bit `err` value of an error code (R154). -/
def ErrCode.code : ErrCode → BitVec 4
  | .illegalOp => 1#4
  | .notReady => 2#4
  | .operand => 3#4
  | .divZero => 4#4
  | .zeroArg => 5#4
  | .config => 6#4

/-- The `err` field of a response; 0 is `OK` (R46, R154). -/
def Response.err : Response → BitVec 4
  | .done _ _ => 0#4
  | .refused e => e.code

/-- Whether a 132-bit response word carries this response (R46): its `err` field is the response's, and, when the command
completed, its `r_hi` and `r_lo` are the results. With a refusal those 128 bits may hold anything (R155; log entry 14). -/
def Response.carriedBy (r : Response) (w : ResponseWord) : Bool :=
  w.extractLsb' 128 4 == r.err &&
    match r with
    | .done lo hi => w.extractLsb' 64 64 == hi && w.extractLsb' 0 64 == lo
    | .refused _ => true

/-- The two field tables of a state. -/
def State.tables (s : State) : Tables := { exp := s.exp, log := s.log }

/-- Read `EXP[i]`: no value when nothing has written it, or when there is no element `i` (R31). -/
def Tables.readExp (t : Tables) (i : Nat) : Option GF16 := (t.exp.toList[i]?).join

/-- Read `LOG[v]` (R31). -/
def Tables.readLog (t : Tables) (v : GF16) : Option LogVal := (t.log.toList[v.toNat]?).join

/-- Read `MINPOLY[i]` (R31). -/
def State.readMinpoly (s : State) (i : Nat) : Option MinPoly := (s.minpoly.toList[i]?).join

/-- Put a response on the response port. -/
def State.respond (s : State) (r : Response) : State := { s with resp := some r }

/-- `return (lo, hi)`: the command ends with `err = OK` (00_scope.md section 5.3). No state item changes. -/
def State.complete (s : State) (lo hi : Port) : State := s.respond (.done lo hi)

/-- `raise ERR_X`: the command ends at once, the response carries the code alone, no state item changes (R153, R155). -/
def State.refuse (s : State) (e : ErrCode) : State := s.respond (.refused e)

/-- One check of a command's rule, `if … : raise ERR_X`, before the rest of it: the checks of a rule stand in its order of
errors (R156). -/
def require (ok : Bool) (e : ErrCode) (s : State) (rest : Result) : Result :=
  if ok then rest else .next (s.refuse e)

/-- The end of a command: complete with the procedure's results. A procedure without a value has read an item that holds no
value, and such a command "ends with `ERR_NOT_READY`" (00_scope.md glossary, "holds no value"); with READY = 1 this happens only in
states that no run reaches (log entry 2). -/
def answer (s : State) : Option (Port × Port) → Result
  | some (lo, hi) => .next (s.complete lo hi)
  | none => .next (s.refuse .notReady)

/-- The tables and constants hold no value (R24, R101). -/
def State.blank (s : State) : State :=
  { s with exp := Vector.replicate 16 none, log := Vector.replicate 16 none, minpoly := Vector.replicate 6 none,
           nmin := none, gen := none, recip := none }

/-- The unit's items after reset, with the ports' side kept and no response pending: what a reset between two commands
does (R24, R170). -/
def State.afterReset (s : State) : State := { State.reset with pending := s.pending }

/-- A command word with a reserved opcode: `ERR_ILLEGAL_OP`, no state change, operands not looked at (R48, R156). -/
def State.illegal (s : State) : DecodeError → State
  | .reservedOpcode _ => s.refuse .illegalOp

/-- The state in which the host presents a move at the unit's ports (R45, R170). -/
def State.present (s : State) (m : Input) : State := { s with pending := some m }

/-- The state in which the unit has taken the move at its ports (R173). -/
def State.taken (s : State) : State := { s with pending := none }

end Sys2Proof.Machine
end

