-- ==== Sys2Proof/Machine/Operands.lean ====
section
/-! DEFINITION. Operand forms and result packing (30_encoding.md rules R49 to R54). Operands are unsigned integers in the low bits
of their port, with "no sign extension, no scaling and no shift" (R49); results are zero-extended (R51). -/

namespace Sys2Proof.Machine

/-- All port bits from bit `w` up are 0: no reserved operand bit is set in a port whose operand has `w` bits; `w = 0` for an
unused port (R49). -/
def fits (w : Nat) (p : Port) : Bool := p >>> w == 0#64

/-- Bits [3:0] of a port: a GF16 operand, or an index or exponent 0..15 (R50). -/
def gfOperand (p : Port) : GF16 := p.extractLsb' 0 4

/-- Bits [2:0] of a port: RDMINP's index (R50). -/
def indexOperand (p : Port) : BitVec 3 := p.extractLsb' 0 3

/-- Bits [4:0] of a port: a message (R50). -/
def msgOperand (p : Port) : Msg := p.extractLsb' 0 5

/-- Bits [14:0] of a port: a codeword or received word (R50). -/
def wordOperand (p : Port) : Codeword := p.extractLsb' 0 15

/-- Element `i` of a packed vector: bits [4i+3:4i] (R52 to R54). -/
def element (p : Port) (i : Nat) : GF16 := p.extractLsb' (4 * i) 4

/-- The first `n` elements of a packed vector. -/
def elements (p : Port) (n : Nat) : List GF16 := (List.range n).map (element p)

/-- Pack field elements with element `i` in bits [4i+3:4i], absent elements 0 (R52 to R54). -/
def packElements : List GF16 → Port
  | [] => 0#64
  | x :: xs => x.setWidth 64 ||| (packElements xs <<< 4)

/-- The syndrome array of an SVEC: `S[j] = a[4j+3:4j]` (R52). -/
def svecOperand (p : Port) : Vector GF16 6 := Vector.ofFn fun j : Fin 6 => element p j.val

/-- Pack a syndrome array (R52). -/
def packSvec (s : Vector GF16 6) : Port := packElements s.toList

/-- The `size` field of an LVEC, bits [18:16] (R53). -/
def lvecSize (p : Port) : Nat := (p.extractLsb' 16 3).toNat

/-- The LVEC is valid: `1 ≤ size ≤ 4` and `L[i] = 0` for every `i ≥ size` (R53). -/
def lvecValid (p : Port) : Bool :=
  decide (1 ≤ lvecSize p) && decide (lvecSize p ≤ 4) &&
    (List.range 4).all fun i => decide (i < lvecSize p) || element p i == 0#4

/-- The coefficients of an LVEC, in emitted order (R53). -/
def lvecOperand (p : Port) : List GF16 := elements p (lvecSize p)

/-- Pack an error-locator: coefficients in bits [15:0], size in bits [18:16] (R53). -/
def packLvec (l : List GF16) : Port := packElements l ||| (BitVec.ofNat 64 l.length <<< 16)

/-- The `count` field of an OVEC, bits [13:12] (R54). -/
def ovecCount (p : Port) : Nat := (p.extractLsb' 12 2).toNat

/-- The OVEC is valid: `O[i] ≤ 14` for every `i < count` and `O[i] = 0` for every `i ≥ count` (R54). -/
def ovecValid (p : Port) : Bool :=
  (List.range 3).all fun i =>
    if i < ovecCount p then decide ((element p i).toNat ≤ 14) else element p i == 0#4

/-- The offsets of an OVEC (R54). -/
def ovecOperand (p : Port) : List LogVal := elements p (ovecCount p)

/-- Pack offsets: offset `i` in bits [4i+3:4i], count in bits [13:12] (R54). -/
def packOvec (o : List LogVal) : Port := packElements o ||| (BitVec.ofNat 64 o.length <<< 12)

/-- A result zero-extended into the low result port, with the high port 0 (R51). -/
def low {w : Nat} (v : BitVec w) : Port × Port := (v.setWidth 64, 0#64)

end Sys2Proof.Machine
end

