-- ==== Sys2Proof/Machine/Flags.lean ====
section
/-! DEFINITION. The result flags. The unit has no flags register and no command sets a flag as a side effect
(10_state.md rule R19); the two indications of decoding, `UNCORR` and `errorsFound`, and the status bits of RDSTAT are fields of the
response (30_encoding.md rules R50 and R55). -/

namespace Sys2Proof.Machine

/-- A flag in bit 0 of a port. -/
def flagBit (f : Bool) : Port := if f then 1#64 else 0#64

/-- `r_hi` of KEYSOLVE and ROOTFIND: bit 0 is `UNCORR` (R55). -/
def uncorrFlag (unc : Bool) : Port := flagBit unc

/-- `r_hi` of DECODE: bit 0 is `UNCORR`, bits [5:4] are `errorsFound` (R55). -/
def decodeFlags (unc : Bool) (errorsFound : Nat) : Port := flagBit unc ||| (BitVec.ofNat 64 errorsFound <<< 4)

/-- `r_lo` of RDSTAT: bit 0 `READY`, bit 1 `CFGERR`, bits [4:2] `NMIN` (R50, R145). -/
def statusFields (ready cfgerr : Bool) (nmin : BitVec 3) : Port :=
  flagBit ready ||| (flagBit cfgerr <<< 1) ||| (nmin.setWidth 64 <<< 2)

end Sys2Proof.Machine
end

