-- ==== Sys2Proof/Machine/PolyAlgebra.lean ====
section
/-! DEFINITION. Component 2, PolynomialAlgebra (41_poly_algebra.md): the procedures `clmul`, `hsb`, `poly_recip`, and the commands
CLMUL, PRECIP and PDEG, which read and write no state. A procedure without a value answers `none`. -/

namespace Sys2Proof.Machine

/-- `clmul(x, y)`: the carry-less product (R85). -/
def clmul (x y : BitPoly) : BitPoly128 :=
  (List.range 64).foldl (fun r i => if x.getLsbD i then r ^^^ (y.setWidth 128 <<< i) else r) 0#128

/-- The "high half" of a product, bits [127:64] (R5). -/
def highHalf (p : BitPoly128) : BitPoly := p.extractLsb' 64 64

/-- The "low half" of a product, bits [63:0] (R5). -/
def lowHalf (p : BitPoly128) : BitPoly := p.extractLsb' 0 64

/-- `hsb(v)`: the index of the highest set bit; no value for 0 (R86). -/
def hsb (v : BitPoly) : Option Nat := if v = 0#64 then none else some v.toNat.log2

/-- One of the 65 steps of `poly_recip`: bring down bit `i` of `x^64`, subtract `d` when the remainder has reached degree `dd`
(R87). The pair is `(rem, quo)`. -/
def recipStep (d : BitPoly) (dd : Nat) (rq : BitVec 65 × BitVec 65) (i : Nat) : BitVec 65 × BitVec 65 :=
  let rem := (rq.1 <<< 1) ||| (if i = 64 then 1#65 else 0#65)
  let quo := rq.2 <<< 1
  if rem.getLsbD dd then (rem ^^^ d.setWidth 65, quo ||| 1#65) else (rem, quo)

/-- Quotient and remainder of `x^64` by `d` after the 65 steps, `i` from 64 down to 0; no value for `d = 0` (R87). -/
def polyRecipRem (d : BitPoly) : Option (BitVec 65 × BitVec 65) :=
  (hsb d).map fun dd =>
    let rq := ((List.range 65).reverse).foldl (recipStep d dd) (0#65, 0#65)
    (rq.2, rq.1)

/-- `poly_recip(d)`: the 65-bit quotient (R87). -/
def polyRecip (d : BitPoly) : Option (BitVec 65) := (polyRecipRem d).map Prod.fst

/-- Division by reciprocal: quotient and remainder of `p` by `d`, given `r = poly_recip(d)` (R91). -/
def divideByReciprocal (p d r : BitPoly) : BitPoly × BitPoly :=
  let q := highHalf (clmul p r)
  (q, lowHalf (clmul q d) ^^^ p)

/-- `CLMUL x, y` (R88). -/
def execClmul (a b : Port) (s : State) : Result :=
  answer s (some (lowHalf (clmul a b), highHalf (clmul a b)))

/-- `PRECIP d` (R89). -/
def execPrecip (a b : Port) (s : State) : Result :=
  require (fits 0 b) .operand s <|
  require (a != 0#64) .divZero s <|
  answer s ((polyRecip a).map fun (q : BitVec 65) => (q.setWidth 64, (q >>> 64).setWidth 64))

/-- `PDEG v` (R90). -/
def execPdeg (a b : Port) (s : State) : Result :=
  require (fits 0 b) .operand s <|
  require (a != 0#64) .zeroArg s <|
  answer s ((hsb a).map fun (n : Nat) => low (BitVec.ofNat 6 n))

end Sys2Proof.Machine
end

