-- ==== Sys2Proof/Machine/GaloisField.lean ====
section
/-! DEFINITION. Component 1, GaloisField (40_gf_field.md): the table build, the five arithmetic procedures, and the commands GFEXP,
GFLOG, GFADD, GFSUB, GFMUL, GFDIV, GFPOW, which write no state. A procedure answers `none` where it has no value: outside its
domain (division by zero, power of zero), or when a table element it reads holds no value. -/

namespace Sys2Proof.Machine

/-- Reduction of an 8-bit intermediate against the modulus, bits 6, 5, 4 in that order (R66). -/
def reduceField (modulus : BitVec 8) (p : BitVec 8) : BitVec 8 :=
  [6, 5, 4].foldl (fun p bpos => if p.getLsbD bpos then p ^^^ (modulus <<< (bpos - 4)) else p) p

/-- The next power of `alpha` after `v`: carry-less product, then reduction (R66). -/
def nextPower (alpha : GF16) (modulus v : BitVec 8) : BitVec 8 :=
  reduceField modulus ((clmul (v.setWidth 64) (alpha.setWidth 64)).extractLsb' 0 8)

/-- First loop of `gf_build`: 16 successive powers of `alpha` into `EXP` (R66). -/
def buildExp (alpha : GF16) (modulus : BitVec 8) : Vector (Option GF16) 16 :=
  ((List.range 16).foldl
    (fun (ev : Vector (Option GF16) 16 × BitVec 8) i =>
      (ev.1.setIfInBounds i (some (ev.2.setWidth 4)), nextPower alpha modulus ev.2))
    (Vector.replicate 16 none, 1#8)).1

/-- Second loop of `gf_build`: `LOG[EXP[e]] <- e` for e = 0..14 only, so that `EXP[15]` does not overwrite `LOG[1]`, and `LOG[0]` is
not written (R66, 90_conflicts.md C2). -/
def buildLog (exp : Vector (Option GF16) 16) : Vector (Option LogVal) 16 :=
  (List.range 15).foldl
    (fun log e =>
      match (exp[e]?).join with
      | some x => log.setIfInBounds x.toNat (some (BitVec.ofNat 4 e))
      | none => log)
    (Vector.replicate 16 none)

/-- `gf_build()` for a primitive element and a modulus (R66). The unit runs it with the hardwired constants of R4 alone
(log entry 12). -/
def gfBuild (alpha : GF16) (modulus : BitVec 8) : Tables :=
  let exp := buildExp alpha modulus
  { exp := exp, log := buildLog exp }

/-- `gf_add(x, y) = x XOR y` (R70). -/
def gfAdd (x y : GF16) : GF16 := x ^^^ y

/-- `gf_sub(x, y) = x XOR y` (R71). -/
def gfSub (x y : GF16) : GF16 := x ^^^ y

/-- `gf_mul(x, y)`: 0 when either operand is 0, else through the logarithms (R72). -/
def gfMul (t : Tables) (x y : GF16) : Option GF16 :=
  if x = 0#4 ∨ y = 0#4 then some 0#4
  else do
    let lx ← t.readLog x
    let ly ← t.readLog y
    t.readExp ((lx.toNat + ly.toNat) % 15)

/-- `gf_div(x, y)`: no value for `y = 0`, 0 for a zero dividend, else through the logarithms, the difference reduced by the
mathematical mod 15 (R73). -/
def gfDiv (t : Tables) (x y : GF16) : Option GF16 :=
  if y = 0#4 then none
  else if x = 0#4 then some 0#4
  else do
    let lx ← t.readLog x
    let ly ← t.readLog y
    t.readExp (((lx.toNat : Int) - (ly.toNat : Int)) % 15).toNat

/-- `gf_pow(x, e)`: no value for `x = 0`, else through the logarithm, exact product then mod 15 (R74). -/
def gfPow (t : Tables) (x : GF16) (e : Nat) : Option GF16 :=
  if x = 0#4 then none
  else do
    let lx ← t.readLog x
    t.readExp (lx.toNat * e % 15)

/-- `GFEXP i` (R75). -/
def execGfexp (a b : Port) (s : State) : Result :=
  require s.ready .notReady s <|
  require (fits 4 a && fits 0 b) .operand s <|
  answer s ((s.tables.readExp (gfOperand a).toNat).map low)

/-- `GFLOG v` (R76). -/
def execGflog (a b : Port) (s : State) : Result :=
  require s.ready .notReady s <|
  require (fits 4 a && fits 0 b) .operand s <|
  require (gfOperand a != 0#4) .zeroArg s <|
  answer s ((s.tables.readLog (gfOperand a)).map low)

/-- `GFADD x, y` (R77). -/
def execGfadd (a b : Port) (s : State) : Result :=
  require (fits 4 a && fits 4 b) .operand s <|
  answer s (some (low (gfAdd (gfOperand a) (gfOperand b))))

/-- `GFSUB x, y` (R78). -/
def execGfsub (a b : Port) (s : State) : Result :=
  require (fits 4 a && fits 4 b) .operand s <|
  answer s (some (low (gfSub (gfOperand a) (gfOperand b))))

/-- `GFMUL x, y` (R79). -/
def execGfmul (a b : Port) (s : State) : Result :=
  require s.ready .notReady s <|
  require (fits 4 a && fits 4 b) .operand s <|
  answer s ((gfMul s.tables (gfOperand a) (gfOperand b)).map low)

/-- `GFDIV x, y` (R80). -/
def execGfdiv (a b : Port) (s : State) : Result :=
  require s.ready .notReady s <|
  require (fits 4 a && fits 4 b) .operand s <|
  require (gfOperand b != 0#4) .divZero s <|
  answer s ((gfDiv s.tables (gfOperand a) (gfOperand b)).map low)

/-- `GFPOW x, e` (R81). -/
def execGfpow (a b : Port) (s : State) : Result :=
  require s.ready .notReady s <|
  require (fits 4 a && fits 4 b) .operand s <|
  require (gfOperand a != 0#4) .zeroArg s <|
  answer s ((gfPow s.tables (gfOperand a) (gfOperand b).toNat).map low)

end Sys2Proof.Machine
end

