-- ==== Sys2Proof/Machine/GeneratorBuilder.lean ====
section
/-! DEFINITION. Component 3, GeneratorBuilder, and the INIT command (42_generator_init.md), the only command that writes
architectural state. -/

namespace Sys2Proof.Machine

/-- `bits_eval(p, x)`: the value at `x ≠ 0` of the polynomial over GF(2) whose coefficient of `x^j` is bit `j` of `p` (R96). -/
def bitsEval (t : Tables) (p : MinPoly) (x : GF16) : Option GF16 :=
  (List.range 5).foldlM
    (fun s j => if p.getLsbD j then (gfPow t x j).map (gfAdd s) else some s)
    0#4

/-- What the scan holds: the transient `USED` flags (R20, R31), `MINPOLY` and `NMIN` so far. -/
structure Scan where
  used : Vector Bool 32
  minpoly : Vector (Option MinPoly) 6
  nmin : Nat
  deriving DecidableEq, Repr

/-- The scan's start: every flag clear, nothing found (R20, R95). -/
def scanStart : Scan := { used := Vector.replicate 32 false, minpoly := Vector.replicate 6 none, nmin := 0 }

/-- The first candidate in 2..31, ascending, with root `x` (R95). -/
def findCandidate (t : Tables) (x : GF16) : Option MinPoly :=
  ((List.range' 2 30).map (BitVec.ofNat 5)).find? fun p => bitsEval t p x == some 0#4

/-- Record the candidate found for one exponent: append it unless it is marked used (R95, R97). -/
def Scan.record (c : Scan) (found : MinPoly) : Scan :=
  if c.used[found.toNat]? = some false then
    { used := c.used.setIfInBounds found.toNat true
      minpoly := c.minpoly.setIfInBounds c.nmin (some found)
      nmin := c.nmin + 1 }
  else c

/-- `gen_build()`: the scan over the exponents 1..2t; `none` is `config_error` (R95, R101). -/
def genBuild (alpha : GF16) (t : Tables) : Option Scan :=
  (List.range' 1 Config.syndromes).foldlM
    (fun c i => do
      let x ← gfPow t alpha i
      let found ← findCandidate t x
      some (c.record found))
    scanStart

/-- The generator product: `g <- clmul(g, MINPOLY[j])[63:0]` for j = 0..NMIN−1 (R98). -/
def genProduct (minpoly : Vector (Option MinPoly) 6) (nmin : Nat) : Option BitPoly :=
  (List.range nmin).foldlM
    (fun g j => ((minpoly[j]?).join).map fun p => lowHalf (clmul g (p.setWidth 64)))
    1#64

/-- `RECIP <- poly_recip(GEN)[63:0]` (R99). -/
def genReciprocal (g : BitPoly) : Option BitPoly := (polyRecip g).map (·.setWidth 64)

/-- INIT's end on `config_error`: the tables and constants hold no value, CFGERR = 1, READY = 0, `ERR_CONFIG` (R101). -/
def State.configFailed (s : State) : State :=
  { s.blank with ready := false, cfgerr := true, resp := some (.refused .config) }

/-- INIT's end after a successful scan: the tables, the scan's set, the product and its reciprocal, READY = 1, CFGERR = 0,
`return (0, 0)` (R98, R99, R100). -/
def State.constantsBuilt (t : Tables) (c : Scan) (s : State) : State :=
  { s with exp := t.exp, log := t.log, minpoly := c.minpoly, nmin := some (BitVec.ofNat 3 c.nmin),
           gen := genProduct c.minpoly c.nmin, recip := (genProduct c.minpoly c.nmin).bind genReciprocal,
           ready := true, cfgerr := false, resp := some (.done 0#64 0#64) }

/-- INIT after its operand check, for a primitive element and a modulus (R100, R101): tables, scan, product, reciprocal. Nothing of
the state before it is read. -/
def buildAll (alpha : GF16) (modulus : BitVec 8) (s : State) : State :=
  match genBuild alpha (gfBuild alpha modulus) with
  | none => s.configFailed
  | some c => s.constantsBuilt (gfBuild alpha modulus) c

/-- `INIT` (R100), with the hardwired constants of R4. -/
def execInit (a b : Port) (s : State) : Result :=
  require (fits 0 a && fits 0 b) .operand s <|
  .next (buildAll Config.alpha Config.modulus s)

end Sys2Proof.Machine
end

