-- ==== Sys2Proof/Machine/Encoder.lean ====
section
/-! DEFINITION. Component 4, the systematic encoder, and ENCODE (43_encoder.md). -/

namespace Sys2Proof.Machine

/-- `encode(m)` with a generator and its reciprocal: message shift, quotient from the high half, product from the low half, parity
by XOR, concatenation (R105). -/
def encodeWith (gen recip : BitPoly) (m : Msg) : Codeword :=
  let ms : BitPoly := m.setWidth 64 <<< Config.parityBits
  let q := highHalf (clmul ms recip)
  let p := lowHalf (clmul q gen)
  let par := p ^^^ ms
  (ms ||| par).extractLsb' 0 15

/-- `encode(m)`, reading `GEN` and `RECIP` (R105). -/
def encodeMsg (s : State) (m : Msg) : Option Codeword := do
  let r ← s.recip
  let g ← s.gen
  some (encodeWith g r m)

/-- `ENCODE m` (R106). -/
def execEncode (a b : Port) (s : State) : Result :=
  require s.ready .notReady s <|
  require (fits 5 a && fits 0 b) .operand s <|
  answer s ((encodeMsg s (msgOperand a)).map low)

end Sys2Proof.Machine
end

