-- ==== Sys2Proof/Machine/SyndromeGenerator.lean ====
section
/-! DEFINITION. Component 5, the syndrome evaluator, and SYND (44_syndrome.md). -/

namespace Sys2Proof.Machine

/-- The received polynomial evaluated at `x`: the XOR over the set bits `k` of `r` of `x^k` (R110). -/
def evalWord (t : Tables) (r : Codeword) (x : GF16) : Option GF16 :=
  (List.range Config.codewordBits).foldlM
    (fun s k => if r.getLsbD k then (gfPow t x k).map (gfAdd s) else some s)
    0#4

/-- `synd(r)`: `S[i−1]` is the value at `α^i`, for i = 1..6 (R110). -/
def syndromes (t : Tables) (r : Codeword) : Option (Vector GF16 6) :=
  (List.range' 1 Config.syndromes).foldlM
    (fun (v : Vector GF16 6) i => do
      let x ← gfPow t Config.alpha i
      let y ← evalWord t r x
      some (v.setIfInBounds (i - 1) y))
    (Vector.replicate 6 0#4)

/-- `SYND r` (R111). -/
def execSynd (a b : Port) (s : State) : Result :=
  require s.ready .notReady s <|
  require (fits 15 a && fits 0 b) .operand s <|
  answer s ((syndromes s.tables (wordOperand a)).map fun v => (packSvec v, 0#64))

end Sys2Proof.Machine
end

