-- ==== Sys2Proof/Machine/KeyEquationSolver.lean ====
section
/-! DEFINITION. Component 6, the extended-Euclidean key-equation solver, and KEYSOLVE (45_key_equation.md), in the structured form of
R125. A `none` inside the solver is a field procedure outside its domain, an index outside 0..7, or a loop beyond the bound the spec
gives it; R128 and R129 say none of the three occurs. -/

namespace Sys2Proof.Machine

/-- An ETRIPLE: the packed buffer of 8 field elements and the split index (R114). The dividend side is `data[0..split−1]`, most
significant first; the auxiliary side is `data[split..7]`, least significant first. -/
structure ETriple where
  data : Vector GF16 8
  split : Nat
  deriving DecidableEq, Repr

/-- What the solver delivers: the error-locator in emitted order, and `uncorrectable` (R124, R125). -/
structure Locator where
  coeffs : List GF16
  uncorrectable : Bool
  deriving DecidableEq, Repr

/-- `shl(E)`: drop the leading element, append a zero, decrement the split index (R115). -/
def shl (e : ETriple) : ETriple :=
  { data := #v[e.data[1], e.data[2], e.data[3], e.data[4], e.data[5], e.data[6], e.data[7], 0#4]
    split := e.split - 1 }

/-- ED at the start: dividend `x^6`, auxiliary `[1]`, split 7 (R116). -/
def startED : ETriple := { data := #v[1#4, 0#4, 0#4, 0#4, 0#4, 0#4, 0#4, 1#4], split := 7 }

/-- ER at the start: dividend the reversed syndrome vector, auxiliary `[0, 0]`, split 6 (R116). -/
def startER (s : Vector GF16 6) : ETriple :=
  { data := #v[s[5], s[4], s[3], s[2], s[1], s[0], 0#4, 0#4], split := 6 }

/-- The normalize step, `while ER.data[0] = 0 and ER.split ≠ 0: shl(ER)`, with `n` shifts at most (R117). -/
def normalizeN : Nat → ETriple → ETriple
  | 0, er => er
  | n + 1, er => if er.data[0] = 0#4 ∧ er.split ≠ 0 then normalizeN n (shl er) else er

/-- The normalize step; every shift decrements the split index, so `ER.split` shifts are all it can make (R117). -/
def normalizeER (er : ETriple) : ETriple := normalizeN er.split er

/-- `dst[i] <- gf_sub(dst[i], gf_mul(q, src[i]))` for the listed indices (R119). -/
def subtractMultiple (t : Tables) (q : GF16) (src : Vector GF16 8) (idx : List Nat) (dst : Vector GF16 8) :
    Option (Vector GF16 8) :=
  idx.foldlM
    (fun (d : Vector GF16 8) i => do
      let y ← src.toList[i]?
      let x ← d.toList[i]?
      let m ← gfMul t q y
      some (d.setIfInBounds i (gfSub x m)))
    dst

/-- The reduction inside one pass: when ED's leading element is non-zero, subtract `q·ER` from ED's dividend side, then `q·ED` from
ER's auxiliary side, both aligned at equal index (R119). The pair is `(ED, ER)`. -/
def reduceOnce (t : Tables) (ed er : ETriple) : Option (ETriple × ETriple) :=
  if ed.data[0] = 0#4 then some (ed, er)
  else do
    let q ← gfDiv t ed.data[0] er.data[0]
    let edData ← subtractMultiple t q er.data (List.range er.split) ed.data
    let erData ← subtractMultiple t q edData (List.range' ed.split (8 - ed.split)) er.data
    some ({ ed with data := edData }, { er with data := erData })

/-- The reduction sub-steps: reduce, leave when the split indices match, else shift ED and repeat, with `n` shifts at most
(R119, 90_conflicts.md C9). -/
def reduceN (t : Tables) : Nat → ETriple → ETriple → Option (ETriple × ETriple)
  | n, ed, er => do
    let p ← reduceOnce t ed er
    if p.1.split = p.2.split then some p
    else
      match n with
      | 0 => none
      | n + 1 => reduceN t n (shl p.1) p.2

/-- The reduction sub-steps; `ED.split − ER.split` shifts bring the split indices together (R119, R129). -/
def reduceSteps (t : Tables) (ed er : ETriple) : Option (ETriple × ETriple) :=
  reduceN t (ed.split - er.split) ed er

/-- The main loop: normalize; leave when `ER.split ≤ t`; else reduce and swap (R117 to R120, R125), with `n` swaps at most. The pair
is `(ED, ER)` at the end. -/
def mainLoop (t : Tables) : Nat → ETriple → ETriple → Option (ETriple × ETriple)
  | n, ed, er =>
    let er := normalizeER er
    if er.split ≤ Config.correctable then some (ed, er)
    else
      match n with
      | 0 => none
      | n + 1 => do
        let p ← reduceSteps t ed er
        mainLoop t n p.2 p.1

/-- Extraction: ED's auxiliary sequence from the split index upward, in emitted order (R121, 90_conflicts.md C8). -/
def extractLocator (ed : ETriple) : List GF16 := ed.data.toList.drop ed.split

/-- The two sanity checks: too long a remainder, or leading coefficient zero (R122). -/
def locatorFails (er : ETriple) (l : List GF16) : Bool :=
  decide (l.length ≤ er.split) || l.head? == some 0#4

/-- The result of an uncorrectable word: the constant polynomial `[1]` (R124). -/
def uncorrectableLocator : Locator := { coeffs := [1#4], uncorrectable := true }

/-- Normalisation: divide every coefficient by the leading one (R123). -/
def scaleLocator (t : Tables) (l : List GF16) : Option (List GF16) := do
  let c ← l.head?
  l.mapM fun x => gfDiv t x c

/-- `keysolve(S)` (R125); at most 3 swaps (R129). -/
def keysolve (t : Tables) (s : Vector GF16 6) : Option Locator := do
  let p ← mainLoop t 3 startED (startER s)
  let l := extractLocator p.1
  if locatorFails p.2 l then some uncorrectableLocator
  else (scaleLocator t l).map fun l => { coeffs := l, uncorrectable := false }

/-- `KEYSOLVE S` (R127). -/
def execKeysolve (a b : Port) (s : State) : Result :=
  require s.ready .notReady s <|
  require (fits 24 a && fits 0 b) .operand s <|
  answer s ((keysolve s.tables (svecOperand a)).map fun l => (packLvec l.coeffs, uncorrFlag l.uncorrectable))

end Sys2Proof.Machine
end

