-- ==== Sys2Proof/Machine/RootFinder.lean ====
section
/-! DEFINITION. Component 7, the root finder, and ROOTFIND (46_root_correct_decode.md section 1). -/

namespace Sys2Proof.Machine

/-- What the root finder delivers: the offsets, and `uncorrectable` (R131). -/
structure Offsets where
  positions : List LogVal
  uncorrectable : Bool
  deriving DecidableEq, Repr

/-- `lam_eval(lsize, L, x)`: Horner's method over the coefficients as emitted (R130). -/
def lamEval (t : Tables) (l : List GF16) (x : GF16) : Option GF16 :=
  l.foldlM (fun acc c => (gfMul t acc x).map fun m => gfAdd m c) 0#4

/-- The scan of `α^j` for j = 0..14, stopping when `need` roots are found, tested before each evaluation (R131). -/
def scanRoots (t : Tables) (l : List GF16) (need : Nat) : Option (List GF16) :=
  (List.range 15).foldlM
    (fun roots j =>
      if roots.length = need then some roots
      else do
        let x ← gfPow t Config.alpha j
        let v ← lamEval t l x
        some (if v = 0#4 then roots ++ [x] else roots))
    []

/-- `rootfind(lsize, L)`: the roots' logarithms, or uncorrectable when fewer roots than `lsize − 1` were found (R131, R132). -/
def rootfind (t : Tables) (l : List GF16) : Option Offsets := do
  let need := l.length - 1
  let roots ← scanRoots t l need
  if roots.length < need then some { positions := [], uncorrectable := true }
  else (roots.mapM t.readLog).map fun o => { positions := o, uncorrectable := false }

/-- `ROOTFIND L` (R133). -/
def execRootfind (a b : Port) (s : State) : Result :=
  require s.ready .notReady s <|
  require (fits 19 a && fits 0 b) .operand s <|
  require (lvecValid a) .operand s <|
  answer s ((rootfind s.tables (lvecOperand a)).map fun o => (packOvec o.positions, uncorrFlag o.uncorrectable))

end Sys2Proof.Machine
end

