-- ==== Sys2Proof/Machine/Corrector.lean ====
section
/-! DEFINITION. Component 8, the corrector, and CORRECT (46_root_correct_decode.md section 2). -/

namespace Sys2Proof.Machine

/-- `correct(w, count, O)`: flip the bit at each offset (R134). -/
def correctBits (w : Codeword) (o : List LogVal) : Codeword :=
  o.foldl (fun w p => w ^^^ (1#15 <<< p.toNat)) w

/-- `CORRECT w, O` (R135). -/
def execCorrect (a b : Port) (s : State) : Result :=
  require (fits 15 a && fits 14 b) .operand s <|
  require (ovecValid b) .operand s <|
  answer s (some (low (correctBits (wordOperand a) (ovecOperand b))))

end Sys2Proof.Machine
end

