-- ==== Sys2Proof/Machine/Decoder.lean ====
section
/-! DEFINITION. The whole decoder and DECODE (46_root_correct_decode.md section 3). -/

namespace Sys2Proof.Machine

/-- What the decoder delivers (R136, R138). -/
structure Decoded where
  corrected : Codeword
  errorsFound : Nat
  uncorrectable : Bool
  deriving DecidableEq, Repr

/-- `decode(r)`: syndromes, key equation, roots unless already uncorrectable, correction (R136). -/
def decodeReceived (t : Tables) (r : Codeword) : Option Decoded := do
  let s ← syndromes t r
  let l ← keysolve t s
  let o ← if l.uncorrectable then some { positions := [], uncorrectable := true } else rootfind t l.coeffs
  some { corrected := correctBits r o.positions
         errorsFound := o.positions.length
         uncorrectable := o.uncorrectable }

/-- `DECODE r` (R137). -/
def execDecode (a b : Port) (s : State) : Result :=
  require s.ready .notReady s <|
  require (fits 15 a && fits 0 b) .operand s <|
  answer s ((decodeReceived s.tables (wordOperand a)).map fun d =>
    (d.corrected.setWidth 64, decodeFlags d.uncorrectable d.errorsFound))

end Sys2Proof.Machine
end

