-- ==== Sys2Proof/Machine/SystemUnit.lean ====
section
/-! DEFINITION. The status and constant read-out commands RDSTAT, RDGEN, RDRCP and RDMINP (47_system.md). None of them changes any
state. -/

namespace Sys2Proof.Machine

/-- The NMIN field of RDSTAT: `NMIN` when READY = 1, else 0 (R145). -/
def statusNmin (s : State) : Option (BitVec 3) := if s.ready then s.nmin else some 0#3

/-- `RDSTAT` (R145), legal in every state. -/
def execRdstat (a b : Port) (s : State) : Result :=
  require (fits 0 a && fits 0 b) .operand s <|
  answer s ((statusNmin s).map fun n => (statusFields s.ready s.cfgerr n, 0#64))

/-- `RDGEN` (R146). -/
def execRdgen (a b : Port) (s : State) : Result :=
  require s.ready .notReady s <|
  require (fits 0 a && fits 0 b) .operand s <|
  answer s (s.gen.map low)

/-- `RDRCP` (R147). -/
def execRdrcp (a b : Port) (s : State) : Result :=
  require s.ready .notReady s <|
  require (fits 0 a && fits 0 b) .operand s <|
  answer s (s.recip.map low)

/-- The index is below `NMIN` (R148: "elements at index ≥ NMIN hold no value"). -/
def minpolyIndexOk (s : State) (i : BitVec 3) : Bool :=
  match s.nmin with
  | some n => decide (i.toNat < n.toNat)
  | none => false

/-- `RDMINP i` (R148). -/
def execRdminp (a b : Port) (s : State) : Result :=
  require s.ready .notReady s <|
  require (fits 3 a && fits 0 b) .operand s <|
  require (minpolyIndexOk s (indexOperand a)) .operand s <|
  answer s ((s.readMinpoly (indexOperand a).toNat).map low)

end Sys2Proof.Machine
end

