-- ==== Sys2Proof/Machine/Dispatch.lean ====
section
/-! DEFINITION. From a command to its meaning (30_encoding.md rule R47), one arm per constructor of `Instr`. -/

namespace Sys2Proof.Machine

/-- Execute one command, from its start to its end (20_memory.md rule R36). -/
def exec (i : Instr) (s : State) : Host.Outcome State Fault Refusal :=
  match i with
  | .init a b => Sys2Proof.Machine.execInit a b s
  | .rdstat a b => Sys2Proof.Machine.execRdstat a b s
  | .rdgen a b => Sys2Proof.Machine.execRdgen a b s
  | .rdrcp a b => Sys2Proof.Machine.execRdrcp a b s
  | .rdminp a b => Sys2Proof.Machine.execRdminp a b s
  | .gfexp a b => Sys2Proof.Machine.execGfexp a b s
  | .gflog a b => Sys2Proof.Machine.execGflog a b s
  | .gfadd a b => Sys2Proof.Machine.execGfadd a b s
  | .gfsub a b => Sys2Proof.Machine.execGfsub a b s
  | .gfmul a b => Sys2Proof.Machine.execGfmul a b s
  | .gfdiv a b => Sys2Proof.Machine.execGfdiv a b s
  | .gfpow a b => Sys2Proof.Machine.execGfpow a b s
  | .clmul a b => Sys2Proof.Machine.execClmul a b s
  | .precip a b => Sys2Proof.Machine.execPrecip a b s
  | .pdeg a b => Sys2Proof.Machine.execPdeg a b s
  | .encode a b => Sys2Proof.Machine.execEncode a b s
  | .synd a b => Sys2Proof.Machine.execSynd a b s
  | .keysolve a b => Sys2Proof.Machine.execKeysolve a b s
  | .rootfind a b => Sys2Proof.Machine.execRootfind a b s
  | .correct a b => Sys2Proof.Machine.execCorrect a b s
  | .decode a b => Sys2Proof.Machine.execDecode a b s

end Sys2Proof.Machine
end

