-- ==== Sys2Proof/Machine/Issue.lean ====
section
/-! DEFINITION. One move of the host, and a whole sequence of them. Both are arguments here, not state: "the command sequence the
host issues" is what the model "takes as parameters and not as state" (00_scope.md rule R8); "the host holds whatever program produces
the commands, and the unit sees only the command words" (20_memory.md rule R38). -/

namespace Sys2Proof.Machine

/-- The host makes the move `m`, and the unit carries it out from its start to its end (R36): a reset gives the reset state (R170),
a command word is decoded and executed, and a reserved opcode is answered `ERR_ILLEGAL_OP` (R48). -/
def issue (m : Input) (s : State) : Result :=
  match m with
  | .reset => .next s.afterReset
  | .command w =>
    match decode w with
    | .ok i => exec i s
    | .error e => .next (s.illegal e)

/-- The host makes the moves of a sequence one after the other, "in the order the host issues them, each from its start to its end
before the next starts" (R36). -/
def runSequence : List Input → State → Result
  | [], s => .next s
  | m :: rest, s =>
    match issue m s with
    | .next t => runSequence rest t
    | .fault r => .fault r
    | .refused r => .refused r

/-- The response a move brings: the unit answers each command, and a reset has no response (R46, R170). -/
def Input.responses (m : Input) (after : State) : List Response :=
  match m with
  | .command _ => after.resp.toList
  | .reset => []

/-- The responses the host takes while it makes the moves of a sequence, in order (R36, R46). -/
def responsesTo : List Input → State → List Response
  | [], _ => []
  | m :: rest, s =>
    match issue m s with
    | .next t => m.responses t ++ responsesTo rest t
    | .fault _ => []
    | .refused _ => []

end Sys2Proof.Machine
end

