-- ==== Sys2Proof/Machine/Step.lean ====
section
/-! DEFINITION. One step of the machine: the move at the unit's ports, carried out (20_memory.md rule R36, 70_reset_and_hazards.md
rules R170 and R173). One command is one step. -/

namespace Sys2Proof.Machine

/-- One step. With nothing presented the unit "waits for the first command" (R170): nothing changes (log entry 4). Otherwise the unit
takes the move at its ports and carries it out. -/
def step (s : State) : Host.Outcome State Fault Refusal :=
  match s.pending with
  | none => .next s
  | some m => issue m s.taken

/-- `s` with the instruction that the low `nbits` bits of `w` spell presented at the ports; `s` itself when those
bits are no command word (log entries 4 and 10). -/
def State.withFetchWord (s : State) (nbits w : Nat) : State :=
  match commandWordOfTable nbits w with
  | some cw => s.present (.command cw)
  | none => s

end Sys2Proof.Machine
end

