-- ==== Sys2Proof/Machine/Script.lean ====
section
/-! DEFINITION. The text form of command scripts (30_encoding.md rule R57): one command a line, the mnemonic, the operands in the
order `a`, `b` separated by a comma, then optionally `=>` and the expected response, `#` starting a comment. It is notation of the
host's, not behaviour of the unit. Lines are lists of characters, so that reading one is plain structural recursion. -/

namespace Sys2Proof.Machine

/-- A line without its comment (R57). -/
def dropComment (l : List Char) : List Char := l.takeWhile (· != '#')

/-- A text without the blanks at its two ends. -/
def trim (l : List Char) : List Char :=
  ((l.dropWhile Char.isWhitespace).reverse.dropWhile Char.isWhitespace).reverse

/-- The brackets that open a packed vector: square for an SVEC, curly for an LVEC, angle for an OVEC (R57). -/
def opensVector (c : Char) : Bool := c == '[' || c.toNat == 123 || c == '<'

/-- The brackets that close one. -/
def closesVector (c : Char) : Bool := c == ']' || c.toNat == 125 || c == '>'

/-- Cut a text at the commas outside brackets; `word` is the part so far, reversed. -/
def splitCommas (depth : Nat) (word : List Char) : List Char → List (List Char)
  | [] => [trim word.reverse]
  | c :: cs =>
    if c == ',' && depth == 0 then trim word.reverse :: splitCommas depth [] cs
    else if opensVector c then splitCommas (depth + 1) (c :: word) cs
    else if closesVector c then splitCommas (depth - 1) (c :: word) cs
    else splitCommas depth (c :: word) cs

/-- Cut a line at the first `=>`. -/
def splitArrow (word : List Char) : List Char → List Char × Option (List Char)
  | [] => (trim word.reverse, none)
  | [c] => (trim (c :: word).reverse, none)
  | c :: d :: cs =>
    if c == '=' && d == '>' then (trim word.reverse, some (trim cs)) else splitArrow (c :: word) (d :: cs)

/-- The value of a digit, if it is one below the base; letters of either case. -/
def digitValue (base : Nat) (c : Char) : Option Nat :=
  let v :=
    if c.isDigit then c.toNat - 48
    else if 97 ≤ c.toNat then c.toNat - 87
    else if 65 ≤ c.toNat then c.toNat - 55
    else base
  if v < base then some v else none

/-- An unsigned number: decimal, or hexadecimal with the prefix `0x`. -/
def readNat : List Char → Option Nat
  | [] => none
  | ['0', 'x'] => none
  | '0' :: 'x' :: ds => ds.foldlM (fun n c => (digitValue 16 c).map (16 * n + ·)) 0
  | ds => ds.foldlM (fun n c => (digitValue 10 c).map (10 * n + ·)) 0

/-- A list of elements below 16; a text of blanks is the empty list. -/
def readElements (l : List Char) : Option (List (BitVec 4)) :=
  if trim l = [] then some []
  else (splitCommas 0 [] l).mapM fun w => (readNat w).bind fun n => if n < 16 then some (BitVec.ofNat 4 n) else none

/-- Pack the elements of a list form, element `i` in bits [4i+3:4i], with its length from bit `pos` up (R52 to R54). -/
def packList (xs : List (BitVec 4)) (pos : Nat) (len : Nat) : Port :=
  packElements xs ||| (BitVec.ofNat 64 len <<< pos)

/-- A literal: a number below 2^64, `[S1,…,S6]`, `{L0,…}` with 1 to 4 entries, or `<O0,…>` with at most 3 (R57). -/
def readLiteral (l : List Char) : Option Port :=
  match l, l.getLast? with
  | c :: cs, some z =>
    if opensVector c && closesVector z then do
      let xs ← readElements cs.dropLast
      if c == '[' && z == ']' && xs.length == 6 then some (packElements xs)
      else if c.toNat == 123 && z.toNat == 125 && 1 ≤ xs.length && xs.length ≤ 4 then some (packList xs 16 xs.length)
      else if c == '<' && z == '>' && xs.length ≤ 3 then some (packList xs 12 xs.length)
      else none
    else do
      let n ← readNat l
      if n < 2 ^ 64 then some (BitVec.ofNat 64 n) else none
  | _, _ => none

/-- A mnemonic's opcode and how many operands its format has: 0 for Z, 1 for A, 2 for AB (R47). -/
def mnemonicTable : List (String × Opcode × Nat) :=
  [("INIT", 0x01#5, 0), ("RDSTAT", 0x02#5, 0), ("RDGEN", 0x03#5, 0), ("RDRCP", 0x04#5, 0), ("RDMINP", 0x05#5, 1),
   ("GFEXP", 0x08#5, 1), ("GFLOG", 0x09#5, 1), ("GFADD", 0x0A#5, 2), ("GFSUB", 0x0B#5, 2), ("GFMUL", 0x0C#5, 2),
   ("GFDIV", 0x0D#5, 2), ("GFPOW", 0x0E#5, 2), ("CLMUL", 0x10#5, 2), ("PRECIP", 0x11#5, 1), ("PDEG", 0x12#5, 1),
   ("ENCODE", 0x18#5, 1), ("SYND", 0x19#5, 1), ("KEYSOLVE", 0x1A#5, 1), ("ROOTFIND", 0x1B#5, 1),
   ("CORRECT", 0x1C#5, 2), ("DECODE", 0x1D#5, 1)]

/-- The command word of a command text (R57, R45). -/
def readCommand (l : List Char) : Option CommandWord := do
  let name := l.takeWhile fun c => !c.isWhitespace
  let rest := trim (l.dropWhile fun c => !c.isWhitespace)
  let (_, op, n) ← mnemonicTable.find? fun r => r.1.toList == name
  let ports ← if rest = [] then some [] else (splitCommas 0 [] rest).mapM readLiteral
  match n, ports with
  | 0, [] => some (op ++ 0#64 ++ 0#64)
  | 1, [a] => some (op ++ a ++ 0#64)
  | 2, [a, b] => some (op ++ a ++ b)
  | _, _ => none

/-- The error names (R154). -/
def errorTable : List (String × ErrCode) :=
  [("ERR_ILLEGAL_OP", .illegalOp), ("ERR_NOT_READY", .notReady), ("ERR_OPERAND", .operand), ("ERR_DIV_ZERO", .divZero),
   ("ERR_ZERO_ARG", .zeroArg), ("ERR_CONFIG", .config)]

/-- One item after `OK lo`: a literal for `r_hi`, or a flag, `UNCORR=0`, `UNCORR=1` or `N=errorsFound`, as the bits of `r_hi` it
stands for (R55, R57). -/
def readHigh (l : List Char) : Option Port :=
  if l = "UNCORR=0".toList then some 0#64
  else if l = "UNCORR=1".toList then some 1#64
  else
    match l with
    | 'N' :: '=' :: ds => (readNat ds).bind fun n => if n ≤ 3 then some (BitVec.ofNat 64 (16 * n)) else none
    | _ => readLiteral l

/-- The response of a response text: `OK lo`, `OK lo, hi` with the flags spelled out, or an error name (R57). -/
def readResponse (l : List Char) : Option Response :=
  match l with
  | 'O' :: 'K' :: c :: rest =>
    if c.isWhitespace then
      match splitCommas 0 [] rest with
      | lo :: his => do
        let lo ← readLiteral lo
        let hi ← his.foldlM (fun h w => (readHigh w).map (h ||| ·)) 0#64
        some (.done lo hi)
      | [] => none
    else none
  | _ => (errorTable.find? fun r => r.1.toList == l).map fun r => .refused r.2

/-- A script line: the command word, and the expected response when the line has one (R57). -/
def readLine (line : List Char) : Option (CommandWord × Option Response) :=
  match splitArrow [] (dropComment line) with
  | (c, none) => (readCommand c).map fun w => (w, none)
  | (c, some r) => do
    let w ← readCommand c
    let e ← readResponse r
    some (w, some e)

end Sys2Proof.Machine
end

