-- ==== Sys2Proof/Machine/Sequencer.lean ====
section
/-! DEFINITION. The sequencer of the key-equation solver (45_key_equation.md rule R126): the control flow of KEYSOLVE as the state
machine the spec names, one state at a time. It is not architectural state (10_state.md rule R11): a sequencer exists only while its
command executes. KEYSOLVE's meaning is the structured procedure of R125; that the two deliver the same is a statement of the model
(log entry 13). -/

namespace Sys2Proof.Machine

/-- The sequencer's states, `K_INIT` to `K_DONE` (R126). -/
inductive KState where
  | kInit | kNorm | kTest | kReduce | kCmp | kShift | kSwap | kExtract | kScale | kFail | kDone
  deriving DecidableEq, Repr

/-- What the sequencer holds: its state, the syndromes, the two triples, and the locator being made. -/
structure Sequencer where
  state : KState
  syndromes : Vector GF16 6
  ed : ETriple
  er : ETriple
  coeffs : List GF16
  uncorrectable : Bool
  deriving DecidableEq, Repr

/-- "it starts in `K_INIT` for every KEYSOLVE or DECODE" (R126); what it holds besides the syndromes is overwritten. -/
def seqStart (s : Vector GF16 6) : Sequencer where
  state := .kInit
  syndromes := s
  ed := startED
  er := startED
  coeffs := []
  uncorrectable := false

/-- One row of the table of R126: the action, and the next state. `K_DONE` is the end of the procedure and stays. -/
def seqStep (t : Tables) (q : Sequencer) : Option Sequencer :=
  match q.state with
  | .kInit => some { q with ed := startED, er := startER q.syndromes, state := .kNorm }
  | .kNorm =>
    if q.er.data[0] = 0#4 ∧ q.er.split ≠ 0 then some { q with er := shl q.er }
    else some { q with state := .kTest }
  | .kTest => some { q with state := if q.er.split ≤ Config.correctable then .kExtract else .kReduce }
  | .kReduce => (reduceOnce t q.ed q.er).map fun p => { q with ed := p.1, er := p.2, state := .kCmp }
  | .kCmp => some { q with state := if q.ed.split = q.er.split then .kSwap else .kShift }
  | .kShift => some { q with ed := shl q.ed, state := .kReduce }
  | .kSwap => some { q with ed := q.er, er := q.ed, state := .kNorm }
  | .kExtract =>
    let l := extractLocator q.ed
    some { q with coeffs := l, state := if locatorFails q.er l then .kFail else .kScale }
  | .kScale => (scaleLocator t q.coeffs).map fun l => { q with coeffs := l, uncorrectable := false, state := .kDone }
  | .kFail => some { q with coeffs := [1#4], uncorrectable := true, state := .kDone }
  | .kDone => some q

/-- `n` transitions of the sequencer. -/
def seqRun (t : Tables) : Nat → Sequencer → Option Sequencer
  | 0, q => some q
  | n + 1, q => (seqStep t q).bind (seqRun t n)

/-- The states visited in `n` transitions, the first included, ending at `K_DONE` when it is reached. -/
def seqVisited (t : Tables) : Nat → Sequencer → List KState
  | 0, q => [q.state]
  | n + 1, q =>
    if q.state = .kDone then [q.state]
    else
      match seqStep t q with
      | some q' => q.state :: seqVisited t n q'
      | none => [q.state]

/-- The locator a sequencer in `K_DONE` delivers. -/
def seqResult (q : Sequencer) : Option Locator :=
  if q.state = .kDone then some { coeffs := q.coeffs, uncorrectable := q.uncorrectable } else none

end Sys2Proof.Machine
end

