-- ==== Sys2Proof/Safety.lean ====
section
/-! DEFINITION. The terms the statements use: the values the spec prints, written out from it and not computed by the model; the
invariant of every run; which commands need READY and which errors each may give; and the field, polynomial and code notions by which
results are judged, defined without the model's tables. -/

namespace Sys2Proof

open Sys2Proof.Machine

/-- Column "needs READY" of R47. -/
def Instr.needsReady : Instr → Bool
  | .init .. | .rdstat .. | .gfadd .. | .gfsub .. | .clmul .. | .precip .. | .pdeg .. | .correct .. => false
  | .rdgen .. | .rdrcp .. | .rdminp .. | .gfexp .. | .gflog .. | .gfmul .. | .gfdiv .. | .gfpow .. | .encode .. | .synd ..
  | .keysolve .. | .rootfind .. | .decode .. => true

/-- The `err` values other than `OK` a command can give, in checking order (R158). -/
def Instr.possibleErrors : Instr → List ErrCode
  | .init .. => [.operand, .config]
  | .rdstat .. | .gfadd .. | .gfsub .. | .correct .. => [.operand]
  | .rdgen .. | .rdrcp .. | .rdminp .. | .gfexp .. | .gfmul .. | .encode .. | .synd .. | .keysolve .. | .rootfind ..
  | .decode .. => [.notReady, .operand]
  | .gflog .. | .gfpow .. => [.notReady, .operand, .zeroArg]
  | .gfdiv .. => [.notReady, .operand, .divZero]
  | .clmul .. => []
  | .precip .. => [.operand, .divZero]
  | .pdeg .. => [.operand, .zeroArg]

/-- How many bits the results of a command occupy in `r_lo` and `r_hi` (R50). -/
def Instr.resultWidths : Instr → Nat × Nat
  | .init .. => (0, 0)
  | .rdstat .. | .rdminp .. => (5, 0)
  | .rdgen .. | .rdrcp .. => (64, 0)
  | .gfexp .. | .gflog .. | .gfadd .. | .gfsub .. | .gfmul .. | .gfdiv .. | .gfpow .. => (4, 0)
  | .clmul .. => (64, 64)
  | .precip .. => (64, 1)
  | .pdeg .. => (6, 0)
  | .encode .. | .correct .. => (15, 0)
  | .synd .. => (24, 0)
  | .keysolve .. => (19, 1)
  | .rootfind .. => (14, 1)
  | .decode .. => (15, 6)

end Sys2Proof

namespace Sys2Proof.Machine

/-- `EXP[0..15]` as the spec prints it (R67). -/
def expTable : List GF16 := [1, 2, 4, 8, 3, 6, 12, 11, 5, 10, 7, 14, 15, 13, 9, 1]

/-- `LOG[1..15]` as the spec prints it (R68). -/
def logTable : List LogVal := [0, 1, 4, 2, 8, 5, 10, 3, 14, 9, 7, 6, 13, 11, 12]

/-- The field tables after a successful INIT (R67, R68); `LOG[0]` holds no value (R14). -/
def Tables.built : Tables where
  exp := #v[some 1, some 2, some 4, some 8, some 3, some 6, some 12, some 11,
            some 5, some 10, some 7, some 14, some 15, some 13, some 9, some 1]
  log := #v[none, some 0, some 1, some 4, some 2, some 8, some 5, some 10,
            some 3, some 14, some 9, some 7, some 6, some 13, some 11, some 12]

/-- `GEN` after a successful INIT (R16, R102). -/
def genValue : BitPoly := 0x537#64

/-- `RECIP` after a successful INIT (R17, R102). -/
def recipValue : BitPoly := 0x005600AC015802B0#64

/-- `MINPOLY[0..5]` after a successful INIT (R15, R102): three elements, the others hold no value. -/
def minpolyValue : Vector (Option MinPoly) 6 := #v[some 0x13, some 0x1F, some 0x07, none, none, none]

/-- The tables and constants hold the values of a successful INIT (R102). -/
abbrev State.Built (s : State) : Prop :=
  s.tables = Tables.built ∧ s.minpoly = minpolyValue ∧ s.nmin = some 3#3 ∧ s.gen = some genValue ∧ s.recip = some recipValue

/-- The tables and constants hold no value (R24). -/
abbrev State.Empty (s : State) : Prop :=
  s.exp = Vector.replicate 16 none ∧ s.log = Vector.replicate 16 none ∧ s.minpoly = Vector.replicate 6 none ∧
    s.nmin = none ∧ s.gen = none ∧ s.recip = none

/-- The invariant of every run: READY = 1 with the values of INIT and CFGERR = 0, or READY = 0 with no value anywhere
(R18, R22, R23, R24, R101). -/
abbrev State.Inv (s : State) : Prop :=
  (s.ready = true ∧ s.cfgerr = false ∧ s.Built) ∨ (s.ready = false ∧ s.Empty)

/-- A state with READY = 1 that a run can be in. -/
abbrev State.Ready (s : State) : Prop := s.Inv ∧ s.ready = true

/-- The eight items of the unit are the same in two states (R12). -/
abbrev SameItems (s t : State) : Prop :=
  t.exp = s.exp ∧ t.log = s.log ∧ t.minpoly = s.minpoly ∧ t.nmin = s.nmin ∧ t.gen = s.gen ∧ t.recip = s.recip ∧
    t.ready = s.ready ∧ t.cfgerr = s.cfgerr

/-- `s` after a successful INIT: the values of R102, READY = 1, CFGERR = 0, and the response `OK` with both results 0 (R100). -/
def State.initialised (s : State) : State :=
  { s with exp := Tables.built.exp, log := Tables.built.log, minpoly := minpolyValue, nmin := some 3#3, gen := some genValue,
           recip := some recipValue, ready := true, cfgerr := false, resp := some (.done 0#64 0#64) }

/-- The 11 reserved opcodes (R48). -/
def reservedOpcodes : List Opcode := [0x00, 0x06, 0x07, 0x0F, 0x13, 0x14, 0x15, 0x16, 0x17, 0x1E, 0x1F]

/-- An operand or result value in its port: zero-extended, in the low bits (R49, R51). -/
def port {w : Nat} (v : BitVec w) : Port := v.setWidth 64

/-- Executing `i` in `s` completes with results `lo` and `hi`, and changes nothing but the response port. -/
abbrev Completes (i : Instr) (s : State) (lo hi : Port) : Prop := exec i s = .next (s.complete lo hi)

/-- Executing `i` in `s` is refused with `e`, and changes nothing but the response port. -/
abbrev Refuses (i : Instr) (s : State) (e : ErrCode) : Prop := exec i s = .next (s.refuse e)

/-- The logarithm of a non-zero element, from the table the spec prints (R68). -/
def logOf (v : GF16) : Nat := (logTable.getD (v.toNat - 1) 0#4).toNat

/-- Element `n` of the exp table the spec prints (R67). -/
def expOf (n : Nat) : GF16 := expTable.getD n 0#4

/-- Multiplication by `x` modulo `x⁴+x+1`: shift, and subtract the modulus when `x⁴` appears (R65). -/
def timesX (v : GF16) : GF16 := (v <<< 1) ^^^ (if v.getLsbD 3 then 0x3#4 else 0x0#4)

/-- The product of two field elements as polynomials modulo `x⁴+x+1` (R65, R72), by Horner's rule over the bits of `x`; no table. -/
def fieldProduct (x y : GF16) : GF16 :=
  [3, 2, 1, 0].foldl (fun acc j => timesX acc ^^^ (if x.getLsbD j then y else 0#4)) 0#4

/-- The `e`-th power of a field element by repeated multiplication (R82). -/
def fieldPower (x : GF16) : Nat → GF16
  | 0 => 1#4
  | e + 1 => fieldProduct (fieldPower x e) x

/-- The value at `x` of the polynomial with coefficients `l`, the leading one first (R130). -/
def fieldEval (l : List GF16) (x : GF16) : GF16 := l.foldl (fun acc c => fieldProduct acc x ^^^ c) 0#4

/-- The value of a 15-bit word as a polynomial over GF(2), at `x` (R110). -/
def wordEval (r : Codeword) (x : GF16) : GF16 :=
  (List.range 15).foldl (fun acc k => acc ^^^ (if r.getLsbD k then fieldPower x k else 0#4)) 0#4

/-- The number of set bits of a word: its Hamming weight. -/
def weight (r : Codeword) : Nat := ((List.range 15).filter fun k => r.getLsbD k).length

/-- The codeword of a message (R105 with the values of R102). -/
def codewordOf (m : Msg) : Codeword := encodeWith genValue recipValue m

end Sys2Proof.Machine
end

