-- ==== Sys2Proof/Certificates/Slice0/Obligations.lean ====
section
/-! DEFINITION. The statements of the model, one `def Obligations.<Name> : Prop` each. They speak of `exec`, `step`, the decoder and
the encoder, and judge results by the values the spec prints (Safety.lean) or by notions defined without the model's tables.
`s.complete lo hi` is the state `s` with the response `OK lo, hi` on the response port and nothing else changed, and `s.refuse e` is
`s` with the refusal `e` there: so `Completes` and `Refuses` are each a whole frame. That the response is held in State is the
model's (log entry 3); what it holds is the spec's. -/

open Sys2Proof Sys2Proof.Machine

/-- R45, R47: decoding the word of a command gives the command back, with every operand bit, for all 21 commands and all ports. -/
def Obligations.DecodeOfEncodeGivesTheCommand : Prop :=
  ∀ i : Instr, decode (encode i) = .ok i

/-- R45, R47: a word that decodes is the word of the command it decodes to, so no two words stand for one command. -/
def Obligations.EncodeOfDecodeGivesTheWord : Prop :=
  ∀ (w : CommandWord) (i : Instr), decode w = .ok i → encode i = w

/-- R45: `op`, `a` and `b` stand in bits [132:128], [127:64] and [63:0] of the command word. -/
def Obligations.CommandWordHasOpAndOperandFields : Prop :=
  ∀ i : Instr,
    (encode i).toNat = i.opcode.toNat * 2 ^ 128 + i.portA.toNat * 2 ^ 64 + i.portB.toNat

/-- R47, and the words of 95_test_vectors.md section 9: one word of each family decodes to the command it is printed for. -/
def Obligations.PrintedWordsDecode : Prop :=
  decode 0x0100000000000000000000000000000000#133 = .ok (.init 0 0) ∧
  decode 0x0500000000000000030000000000000000#133 = .ok (.rdminp 3 0) ∧
  decode 0x0D000000000000000A0000000000000009#133 = .ok (.gfdiv 0xA 9) ∧
  decode 0x100000000000005C00005600AC015802B0#133 = .ok (.clmul 0x5C00 0x005600AC015802B0) ∧
  decode 0x1800000000000000170000000000000000#133 = .ok (.encode 0x17 0) ∧
  decode 0x1A00000000004612110000000000000000#133 = .ok (.keysolve 0x461211 0) ∧
  decode 0x1C0000000000005C1D0000000000003542#133 = .ok (.correct 0x5C1D 0x3542) ∧
  decode 0x1F00000000000000000000000000000000#133 = .error (.reservedOpcode 0x1F)

/-- R48: the 11 reserved opcodes decode to no command and are answered `ERR_ILLEGAL_OP` with no state change, whatever the operands
and the state; every other opcode decodes to a command of that opcode. -/
def Obligations.ReservedOpcodesAnswerIllegalOp : Prop :=
  ∀ w : CommandWord,
    (w.op ∈ reservedOpcodes →
      decode w = .error (.reservedOpcode w.op) ∧
      ∀ s : State, issue (.command w) s = .next (s.refuse .illegalOp) ∧
        step (s.present (.command w)) = .next (s.taken.refuse .illegalOp)) ∧
    (w.op ∉ reservedOpcodes → ∃ i, decode w = .ok i ∧ i.opcode = w.op)

/-- R36: a step carries out the move presented at the ports, on the state in which it is taken: a command word that decodes is executed;
with nothing presented a step changes nothing. That the move at the ports is held in State, and the waiting step, are the model's choice
(log entry 4). -/
def Obligations.StepRunsTheDecodedCommand : Prop :=
  (∀ (s : State) (w : CommandWord) (i : Instr),
    s.pending = some (.command w) → decode w = .ok i → step s = exec i s.taken ∧ issue (.command w) s.taken = exec i s.taken) ∧
  (∀ (s : State) (m : Input), step (s.present m) = issue m s.taken) ∧
  (∀ s : State, s.pending = none → step s = .next s)

/-- R24: after reset READY and CFGERR are 0, every table and constant holds no value, no response is pending, RDSTAT reports 0, and
every command that would read a constant ends with `ERR_NOT_READY`. -/
def Obligations.ResetLeavesNoValues : Prop :=
  State.reset.ready = false ∧ State.reset.cfgerr = false ∧ State.reset.Empty ∧ State.reset.resp = none ∧
  Completes (.rdstat 0 0) State.reset 0 0 ∧
  ∀ i : Instr, i.needsReady = true → Refuses i State.reset .notReady

/-- R170: a reset between two commands leaves, from any state, exactly the state after reset. That reset is a move between two steps is
the model's choice (log entry 7). -/
def Obligations.ResetMayComeBetweenCommands : Prop :=
  ∀ s : State, s.pending = some .reset → step s = .next State.reset

/-- R24: the invariant holds at reset. -/
def Obligations.InvHoldsAtReset : Prop := State.reset.Inv

/-- R18, R22, R23, R101: every step keeps the invariant: READY = 1 with exactly the values INIT computes and CFGERR = 0, or READY = 0
with no value anywhere. -/
def Obligations.StepKeepsInv : Prop :=
  ∀ s t : State, s.Inv → step s = .next t → t.Inv

/-- R14: every step from any state keeps `LOG[0]` without a value. -/
def Obligations.StepKeepsLogOfZeroWithoutValue : Prop :=
  ∀ s t : State, s.tables.readLog 0 = none → step s = .next t → t.tables.readLog 0 = none

/-- R23 items 1, 2, 5 and 6: what the invariant says of a ready unit: exp and log are inverse, index 15 wraps, no power is 0, GEN
has degree 10, NMIN = 3, CFGERR = 0, and RECIP times GEN is 2^64 XOR 0x10. -/
def Obligations.ReadyUnitHoldsTheSpecsInvariants : Prop :=
  ∀ s : State, s.Ready →
    (∀ v : GF16, v ≠ 0 → ∃ e, s.tables.readLog v = some e ∧ s.tables.readExp e.toNat = some v) ∧
    (∀ e < 15, ∃ v, s.tables.readExp e = some v ∧ v ≠ 0 ∧ s.tables.readLog v = some (BitVec.ofNat 4 e)) ∧
    s.tables.readExp 15 = some 1 ∧ s.tables.readExp 0 = some 1 ∧
    s.nmin = some 3 ∧ s.cfgerr = false ∧
    ∃ g r, s.gen = some g ∧ s.recip = some r ∧ hsb g = some 10 ∧ clmul r g ^^^ 0x10#128 = 1#128 <<< 64

/-- R46, R153: every command, in every state, is answered: the next state holds a response, and the move at the ports is left alone. -/
def Obligations.EveryCommandIsAnswered : Prop :=
  ∀ (i : Instr) (s : State), ∃ t r, exec i s = .next t ∧ t.resp = some r ∧ t.pending = s.pending

/-- R158: in every state a run reaches, no command gives an error that the table of R158 does not list for it. -/
def Obligations.ErrorsAreThoseListed : Prop :=
  ∀ (i : Instr) (s t : State) (e : ErrCode), s.Inv →
    exec i s = .next t → t.resp = some (.refused e) → e ∈ i.possibleErrors

/-- R171: before a successful INIT the 13 commands that need the constants end with `ERR_NOT_READY`, and the other 8 never do, while
READY = 0 or in any state a run reaches. -/
def Obligations.ReadyGatesThirteenCommands : Prop :=
  ∀ (i : Instr) (s : State),
    (s.ready = false → i.needsReady = true → Refuses i s .notReady) ∧
    (s.ready = false ∨ s.Inv → i.needsReady = false → ∀ t, exec i s = .next t → t.resp ≠ some (.refused .notReady)) ∧
    (s.Ready → ∀ t, exec i s = .next t → t.resp ≠ some (.refused .notReady))

/-- R49: with the READY check passed, a command whose ports have a reserved bit set, a non-zero unused port, or an invalid packed
vector is refused with `ERR_OPERAND`, and so is RDMINP with an index not below NMIN; no other command with well-formed operands is so
refused. -/
def Obligations.IllFormedOperandsAreRefused : Prop :=
  ∀ (i : Instr) (s : State), (i.needsReady = true → s.ready = true) →
    (¬ i.WellFormed → Refuses i s .operand) ∧
    (∀ k n : BitVec 3, i = .rdminp (port k) 0 → s.nmin = some n → n.toNat ≤ k.toNat → Refuses i s .operand) ∧
    (i.WellFormed → (∀ a b, i ≠ .rdminp a b) → ¬ Refuses i s .operand)

/-- R156: the order of the checks: reserved opcode, READY, operands (RDMINP's index last), zero divisor or zero argument; INIT's operand
check before everything INIT does. -/
def Obligations.ChecksComeInOrder : Prop :=
  (∀ (s : State) (w : CommandWord), w.op ∈ reservedOpcodes → issue (.command w) s = .next (s.refuse .illegalOp)) ∧
  (∀ (s : State) (i : Instr), i.needsReady = true → s.ready = false → Refuses i s .notReady) ∧
  (∀ (s : State) (i : Instr), (i.needsReady = true → s.ready = true) → ¬ i.WellFormed → Refuses i s .operand) ∧
  (∀ (s : State) (k n : BitVec 3), s.ready = true → s.nmin = some n → n.toNat ≤ k.toNat →
    Refuses (.rdminp (port k) 0) s .operand) ∧
  (∀ (s : State) (x : GF16), s.ready = true → Refuses (.gfdiv (port x) 0) s .divZero) ∧
  (∀ (s : State) (e : GF16), s.ready = true → Refuses (.gfpow 0 (port e)) s .zeroArg) ∧
  (∀ s : State, s.ready = true → Refuses (.gflog 0 0) s .zeroArg) ∧
  (∀ s : State, Refuses (.precip 0 0) s .divZero ∧ Refuses (.pdeg 0 0) s .zeroArg) ∧
  (∀ (s : State) (a b : Port), a ≠ 0 ∨ b ≠ 0 → Refuses (.init a b) s .operand)

/-- R155: a refusal other than `ERR_CONFIG` changes no state item and the unit goes on: the next command ends as it would have without
the refused one. INIT ending with `ERR_CONFIG` leaves READY = 0, CFGERR = 1 and no item with a value, and the unit goes on. The 128
result bits of a refusal's response word may hold anything. Two clauses rest on choices of the model: `ERR_CONFIG` is taken for any
primitive element and modulus (log entry 12), and which words carry a refusal is the relation of log entry 14. -/
def Obligations.RefusalChangesNoItem : Prop :=
  (∀ (i : Instr) (s t : State) (e : ErrCode), exec i s = .next t → t.resp = some (.refused e) → e ≠ .config →
    t = s.refuse e ∧ ∀ j : Instr, ∃ u, exec j t = .next u ∧ exec j s = .next u) ∧
  (∀ (alpha : GF16) (modulus : BitVec 8) (s : State), genBuild alpha (gfBuild alpha modulus) = none →
    (buildAll alpha modulus s).resp = some (.refused .config) ∧ (buildAll alpha modulus s).ready = false ∧
    (buildAll alpha modulus s).cfgerr = true ∧ (buildAll alpha modulus s).Empty ∧
    (buildAll alpha modulus s).pending = s.pending ∧ ∀ j : Instr, ∃ u, exec j (buildAll alpha modulus s) = .next u) ∧
  (∀ (e : ErrCode) (hi lo : Port), (Response.refused e).carriedBy (e.code ++ hi ++ lo) = true)

/-- R22: no command but INIT changes an item of the unit, and what it answers depends on its operands and on the items alone. -/
def Obligations.OnlyInitWritesTheUnit : Prop :=
  ∀ (i : Instr), (∀ a b, i ≠ .init a b) →
    (∀ s t : State, exec i s = .next t → SameItems s t ∧ t.pending = s.pending) ∧
    (∀ s s' t t' : State, SameItems s s' → exec i s = .next t → exec i s' = .next t' → t.resp = t'.resp)

/-- R50, R51: in every state a run reaches, the results of a completed command are zero above the fields R50 gives them. -/
def Obligations.ResultsAreZeroExtended : Prop :=
  ∀ (i : Instr) (s t : State) (lo hi : Port), s.Inv → exec i s = .next t → t.resp = some (.done lo hi) →
    lo.toNat < 2 ^ i.resultWidths.1 ∧ hi.toNat < 2 ^ i.resultWidths.2

/-- R46, R154, R155: a response word carries a completed response exactly when it is `0 ‖ r_hi ‖ r_lo`, and a refusal exactly when its
`err` field is the refusal's code, whatever its result bits; the codes are 1 to 6, each its own. That a relation says which words carry
a response, and that a refusal's word is fixed by its `err` field alone, is the model's choice, deduced from R46 and R155 (log entry
14). -/
def Obligations.ResponseWordCarriesTheResponse : Prop :=
  (∀ (lo hi : Port) (w : ResponseWord), (Response.done lo hi).carriedBy w = true ↔ w = 0#4 ++ hi ++ lo) ∧
  (∀ (e : ErrCode) (w : ResponseWord), (Response.refused e).carriedBy w = true ↔ w.toNat / 2 ^ 128 = e.code.toNat) ∧
  (∀ e : ErrCode, 1 ≤ e.code.toNat ∧ e.code.toNat ≤ 6) ∧
  (∀ e f : ErrCode, e.code = f.code → e = f)

/-- R100, R102, R103: from every state INIT builds the values the spec prints, sets READY, clears CFGERR and answers `OK 0`; so a
second INIT changes nothing more. With a non-zero port it is refused and changes nothing. -/
def Obligations.InitBuildsTheConstants : Prop :=
  ∀ (s : State) (a b : Port),
    (a = 0 ∧ b = 0 → exec (.init a b) s = .next s.initialised) ∧
    (a ≠ 0 ∨ b ≠ 0 → Refuses (.init a b) s .operand)

/-- R101, R157: when the scan finds no minimal polynomial, INIT ends with `ERR_CONFIG`, CFGERR = 1, READY = 0 and no value anywhere,
and the commands that need READY are refused afterwards; with the unit's own constants this never happens. The scan fails only for
constants the unit does not have, so INIT is taken here for any primitive element and modulus (log entry 12, the model's choice). -/
def Obligations.ConfigurationErrorAbortsInit : Prop :=
  (∀ (alpha : GF16) (modulus : BitVec 8) (s : State), genBuild alpha (gfBuild alpha modulus) = none →
    (buildAll alpha modulus s).resp = some (.refused .config) ∧ (buildAll alpha modulus s).cfgerr = true ∧
    (buildAll alpha modulus s).ready = false ∧ (buildAll alpha modulus s).Empty ∧
    ∀ i : Instr, i.needsReady = true → Refuses i (buildAll alpha modulus s) .notReady) ∧
  (∀ (s t : State) (a b : Port), exec (.init a b) s = .next t → t.resp ≠ some (.refused .config))

/-- R145: RDSTAT reports READY in bit 0, CFGERR in bit 1, and NMIN in bits [4:2] when READY = 1, else 0 there. -/
def Obligations.RdstatReportsTheStatus : Prop :=
  ∀ s : State,
    (∀ a b : Port, a ≠ 0 ∨ b ≠ 0 → Refuses (.rdstat a b) s .operand) ∧
    (∀ n : BitVec 3, s.ready = true → s.nmin = some n →
      Completes (.rdstat 0 0) s (BitVec.ofNat 64 (1 + 2 * s.cfgerr.toNat + 4 * n.toNat)) 0) ∧
    (s.ready = false → Completes (.rdstat 0 0) s (BitVec.ofNat 64 (2 * s.cfgerr.toNat)) 0)

/-- R146, R147: RDGEN and RDRCP read GEN and RECIP, 0x537 and 0x005600AC015802B0 in a run; RDRCP's result is what PRECIP returns for
RDGEN's. -/
def Obligations.RdgenAndRdrcpReadTheConstants : Prop :=
  ∀ s : State,
    (∀ a b : Port, s.ready = false → Refuses (.rdgen a b) s .notReady ∧ Refuses (.rdrcp a b) s .notReady) ∧
    (∀ a b : Port, s.ready = true → a ≠ 0 ∨ b ≠ 0 → Refuses (.rdgen a b) s .operand ∧ Refuses (.rdrcp a b) s .operand) ∧
    (∀ g r : BitPoly, s.ready = true → s.gen = some g → s.recip = some r →
      Completes (.rdgen 0 0) s g 0 ∧ Completes (.rdrcp 0 0) s r 0) ∧
    (s.Ready → Completes (.rdgen 0 0) s 0x537 0 ∧ Completes (.rdrcp 0 0) s 0x005600AC015802B0 0 ∧
      Completes (.precip 0x537 0) s 0x005600AC015802B0 0)

/-- R148: RDMINP reads the minimal polynomial at an index below NMIN (in a run 0x13, 0x1F, 0x07) and is refused with `ERR_OPERAND` at
any other. -/
def Obligations.RdminpReadsTheMinimalPolynomials : Prop :=
  ∀ s : State,
    (∀ a b : Port, s.ready = false → Refuses (.rdminp a b) s .notReady) ∧
    (∀ a b : Port, s.ready = true → ¬ (Instr.rdminp a b).WellFormed → Refuses (.rdminp a b) s .operand) ∧
    (∀ i n : BitVec 3, s.ready = true → s.nmin = some n → n.toNat ≤ i.toNat → Refuses (.rdminp (port i) 0) s .operand) ∧
    (∀ (i n : BitVec 3) (p : MinPoly), s.ready = true → s.nmin = some n → i.toNat < n.toNat →
      s.readMinpoly i.toNat = some p → Completes (.rdminp (port i) 0) s (port p) 0) ∧
    (s.Ready → Completes (.rdminp 0 0) s 0x13 0 ∧ Completes (.rdminp 1 0) s 0x1F 0 ∧ Completes (.rdminp 2 0) s 0x07 0 ∧
      ∀ i : BitVec 3, 3 ≤ i.toNat → Refuses (.rdminp (port i) 0) s .operand)

/-- R75: GFEXP answers the element of EXP at its index, 0 to 15, whatever the table holds. -/
def Obligations.GfexpReadsExp : Prop :=
  ∀ s : State,
    (∀ a b : Port, s.ready = false → Refuses (.gfexp a b) s .notReady) ∧
    (∀ a b : Port, s.ready = true → ¬ (Instr.gfexp a b).WellFormed → Refuses (.gfexp a b) s .operand) ∧
    (∀ (i : BitVec 4) (x : GF16), s.ready = true → s.tables.readExp i.toNat = some x →
      Completes (.gfexp (port i) 0) s (port x) 0) ∧
    (s.Ready → Completes (.gfexp 15 0) s 1 0 ∧ Completes (.gfexp 0 0) s 1 0 ∧
      ∀ i : BitVec 4, ∃ x : GF16, x ≠ 0 ∧ Completes (.gfexp (port i) 0) s (port x) 0)

/-- R76: GFLOG answers the element of LOG for a non-zero operand; the logarithm of 0 is refused with `ERR_ZERO_ARG`. -/
def Obligations.GflogReadsLog : Prop :=
  ∀ s : State,
    (∀ a b : Port, s.ready = false → Refuses (.gflog a b) s .notReady) ∧
    (∀ a b : Port, s.ready = true → ¬ (Instr.gflog a b).WellFormed → Refuses (.gflog a b) s .operand) ∧
    (s.ready = true → Refuses (.gflog 0 0) s .zeroArg) ∧
    (∀ (v : GF16) (e : LogVal), v ≠ 0 → s.ready = true → s.tables.readLog v = some e →
      Completes (.gflog (port v) 0) s (port e) 0) ∧
    (s.Ready → Completes (.gflog 1 0) s 0 0)

/-- R67, R68 (tables the spec marks as derived from R66): in a run GFEXP and GFLOG answer the values the spec prints. -/
def Obligations.GfexpAndGflogReadThePrintedTables : Prop :=
  ∀ s : State, s.Ready →
    (∀ i : BitVec 4, Completes (.gfexp (port i) 0) s (port (expOf i.toNat)) 0) ∧
    (∀ v : GF16, v ≠ 0 → Completes (.gflog (port v) 0) s (BitVec.ofNat 64 (logOf v)) 0)

/-- R77, R78: GFADD and GFSUB are the XOR of two field elements, in every state. -/
def Obligations.GfaddAndGfsubAreXor : Prop :=
  ∀ s : State,
    (∀ x y : GF16, Completes (.gfadd (port x) (port y)) s (port (x ^^^ y)) 0 ∧
      Completes (.gfsub (port x) (port y)) s (port (x ^^^ y)) 0) ∧
    (∀ a b : Port, 16 ≤ a.toNat ∨ 16 ≤ b.toNat → Refuses (.gfadd a b) s .operand ∧ Refuses (.gfsub a b) s .operand)

/-- R79: GFMUL is 0 when an operand is 0, with no table read, else the element of EXP at the sum of the logarithms mod 15;
1 times an element is the element. -/
def Obligations.GfmulAddsLogarithms : Prop :=
  ∀ s : State,
    (∀ a b : Port, s.ready = false → Refuses (.gfmul a b) s .notReady) ∧
    (∀ a b : Port, s.ready = true → ¬ (Instr.gfmul a b).WellFormed → Refuses (.gfmul a b) s .operand) ∧
    (∀ x y : GF16, s.ready = true → x = 0 ∨ y = 0 → Completes (.gfmul (port x) (port y)) s 0 0) ∧
    (∀ (x y z : GF16) (lx ly : LogVal), s.ready = true → x ≠ 0 → y ≠ 0 →
      s.tables.readLog x = some lx → s.tables.readLog y = some ly →
      s.tables.readExp ((lx.toNat + ly.toNat) % 15) = some z → Completes (.gfmul (port x) (port y)) s (port z) 0) ∧
    (s.Ready → ∀ x : GF16, Completes (.gfmul (port x) 1) s (port x) 0 ∧ Completes (.gfmul 1 (port x)) s (port x) 0)

/-- R80: GFDIV refuses a zero divisor with `ERR_DIV_ZERO`, a zero dividend gives 0, else the element of EXP at the difference of the
logarithms mod 15; an element by itself gives 1. -/
def Obligations.GfdivSubtractsLogarithms : Prop :=
  ∀ s : State,
    (∀ a b : Port, s.ready = false → Refuses (.gfdiv a b) s .notReady) ∧
    (∀ a b : Port, s.ready = true → ¬ (Instr.gfdiv a b).WellFormed → Refuses (.gfdiv a b) s .operand) ∧
    (∀ x : GF16, s.ready = true → Refuses (.gfdiv (port x) 0) s .divZero) ∧
    (∀ y : GF16, s.ready = true → y ≠ 0 → Completes (.gfdiv 0 (port y)) s 0 0) ∧
    (∀ (x y z : GF16) (lx ly : LogVal), s.ready = true → x ≠ 0 → y ≠ 0 →
      s.tables.readLog x = some lx → s.tables.readLog y = some ly →
      s.tables.readExp ((lx.toNat + 15 - ly.toNat) % 15) = some z → Completes (.gfdiv (port x) (port y)) s (port z) 0) ∧
    (s.Ready → ∀ x : GF16, x ≠ 0 → Completes (.gfdiv (port x) (port x)) s 1 0)

/-- R81: GFPOW refuses base 0 with `ERR_ZERO_ARG` for every exponent, else gives the element of EXP at the logarithm times the exponent
mod 15; the exponents 0 and 15 give 1. -/
def Obligations.GfpowMultipliesTheLogarithm : Prop :=
  ∀ s : State,
    (∀ a b : Port, s.ready = false → Refuses (.gfpow a b) s .notReady) ∧
    (∀ a b : Port, s.ready = true → ¬ (Instr.gfpow a b).WellFormed → Refuses (.gfpow a b) s .operand) ∧
    (∀ e : BitVec 4, s.ready = true → Refuses (.gfpow 0 (port e)) s .zeroArg) ∧
    (∀ (x z : GF16) (e : BitVec 4) (lx : LogVal), s.ready = true → x ≠ 0 → s.tables.readLog x = some lx →
      s.tables.readExp (lx.toNat * e.toNat % 15) = some z → Completes (.gfpow (port x) (port e)) s (port z) 0) ∧
    (s.Ready → ∀ x : GF16, x ≠ 0 → Completes (.gfpow (port x) 0) s 1 0 ∧ Completes (.gfpow (port x) 15) s 1 0)

/-- R72, R82: in a run the field commands compute in GF(16): GFMUL is the product of polynomials modulo `x⁴+x+1`, GFDIV undoes it, GFPOW
is repeated multiplication. -/
def Obligations.FieldCommandsComputeModuloTheModulus : Prop :=
  ∀ s : State, s.Ready → ∀ x y : GF16,
    Completes (.gfmul (port x) (port y)) s (port (fieldProduct x y)) 0 ∧
    (y ≠ 0 → Completes (.gfdiv (port (fieldProduct x y)) (port y)) s (port x) 0) ∧
    (x ≠ 0 → ∀ e : BitVec 4, Completes (.gfpow (port x) (port e)) s (port (fieldPower x e.toNat)) 0)

/-- R85, R88: CLMUL, in every state and for every pair of operands, gives the product over GF(2): bit `k` of `r_hi ‖ r_lo` is the XOR,
over all `i + j = k`, of `x[i] AND y[j]`. -/
def Obligations.ClmulIsThePolynomialProduct : Prop :=
  ∀ (s : State) (x y : Port), ∃ lo hi : Port, Completes (.clmul x y) s lo hi ∧
    ∀ k < 128, (hi ++ lo : BitVec 128).getLsbD k =
      decide (((List.range (k + 1)).filter fun i => x.getLsbD i && y.getLsbD (k - i)).length % 2 = 1)

/-- R85: the laws of the carry-less product: commutative, distributive over XOR, identity 1, zero, and never bit 127. -/
def Obligations.ClmulLaws : Prop :=
  ∀ x y z : BitPoly,
    clmul x y = clmul y x ∧ clmul x (y ^^^ z) = clmul x y ^^^ clmul x z ∧
    clmul x 1 = x.setWidth 128 ∧ clmul x 2 = x.setWidth 128 <<< 1 ∧ clmul x 0 = 0 ∧ (clmul x y).getLsbD 127 = false

/-- R87, R89: PRECIP, for every non-zero divisor, gives the polynomial quotient of `x^64`: some remainder of lower degree than the
divisor makes quotient times divisor plus remainder equal `x^64`; bit 64 of the quotient is set for the divisor 1 alone. -/
def Obligations.PrecipIsThePolynomialQuotient : Prop :=
  ∀ (s : State) (d : Port),
    (∀ b : Port, b ≠ 0 → Refuses (.precip d b) s .operand) ∧
    (d = 0 → Refuses (.precip d 0) s .divZero) ∧
    (d ≠ 0 → ∃ (q : Port) (top : Bool) (rem : BitPoly) (n : Nat),
      Completes (.precip d 0) s q (port (BitVec.ofBool top)) ∧
      d.getLsbD n = true ∧ (∀ m, n < m → d.getLsbD m = false) ∧ rem.toNat < 2 ^ n ∧
      (clmul q d).setWidth 129 ^^^ ((if top then d.setWidth 129 else 0#129) <<< 64) ^^^ rem.setWidth 129 = 1#129 <<< 64 ∧
      (top = true ↔ d = 1))

/-- R86, R90: PDEG gives the index of the highest set bit, and refuses 0 with `ERR_ZERO_ARG`. -/
def Obligations.PdegIsTheHighestSetBit : Prop :=
  ∀ (s : State) (v : Port),
    (∀ b : Port, b ≠ 0 → Refuses (.pdeg v b) s .operand) ∧
    (v = 0 → Refuses (.pdeg v 0) s .zeroArg) ∧
    (v ≠ 0 → ∃ n < 64, Completes (.pdeg v 0) s (BitVec.ofNat 64 n) 0 ∧
      v.getLsbD n = true ∧ ∀ m, n < m → v.getLsbD m = false)

/-- R91: dividing with PRECIP and two CLMUL gives exact quotient and remainder for every 64-bit dividend and every divisor of degree at
least 1: `q·d` has no high half, `A = q·d XOR rmd`, and `rmd` has lower degree than `d`. -/
def Obligations.DivisionByReciprocalIsExact : Prop :=
  ∀ (s : State) (p d : Port), 2 ≤ d.toNat →
    ∃ (r q low1 prod : Port) (n : Nat),
      Completes (.precip d 0) s r 0 ∧ Completes (.clmul p r) s low1 q ∧ Completes (.clmul q d) s prod 0 ∧
      d.getLsbD n = true ∧ (∀ m, n < m → d.getLsbD m = false) ∧ (prod ^^^ p).toNat < 2 ^ n

/-- R104, R105, R106: ENCODE puts the message in bits [14:10] and, in bits [9:0], the remainder of the shifted message by GEN: the
codeword is a multiple of GEN. -/
def Obligations.EncodeIsSystematic : Prop :=
  ∀ s : State,
    (∀ a b : Port, s.ready = false → Refuses (.encode a b) s .notReady) ∧
    (∀ a b : Port, s.ready = true → ¬ (Instr.encode a b).WellFormed → Refuses (.encode a b) s .operand) ∧
    (s.Ready → ∀ m : Msg, ∃ (c : Codeword) (q : Port),
      Completes (.encode (port m) 0) s (port c) 0 ∧ c.toNat / 2 ^ 10 = m.toNat ∧ clmul q genValue = c.setWidth 128)

/-- R107, R112: the code is linear, two codewords differ in at least 7 bits, and every codeword has the all-zero syndrome vector. -/
def Obligations.CodewordsAreFarApartWithZeroSyndromes : Prop :=
  ∀ s : State, s.Ready → ∀ (m1 m2 : Msg) (c1 c2 : Codeword),
    Completes (.encode (port m1) 0) s (port c1) 0 → Completes (.encode (port m2) 0) s (port c2) 0 →
    Completes (.encode (port (m1 ^^^ m2)) 0) s (port (c1 ^^^ c2)) 0 ∧
    (m1 ≠ m2 → 7 ≤ weight (c1 ^^^ c2)) ∧ Completes (.synd (port c1) 0) s 0 0

/-- R110, R111: SYND gives six elements, `S[j]` the value at `α^(j+1)` of the received word as a polynomial. -/
def Obligations.SyndEvaluatesAtPowersOfAlpha : Prop :=
  ∀ s : State,
    (∀ a b : Port, s.ready = false → Refuses (.synd a b) s .notReady) ∧
    (∀ a b : Port, s.ready = true → ¬ (Instr.synd a b).WellFormed → Refuses (.synd a b) s .operand) ∧
    (s.Ready → ∀ r : Codeword, ∃ v : Port, Completes (.synd (port r) 0) s v 0 ∧ v.toNat < 2 ^ 24 ∧
      ∀ j < 6, nibbleNat v j = (wordEval r (fieldPower 2 (j + 1))).toNat)

/-- R113: the syndromes are linear in the word, and `S[1] = S[0]²`, `S[3] = S[1]²`, `S[5] = S[2]²`. -/
def Obligations.SyndromesAreLinearAndSquare : Prop :=
  ∀ s : State, s.Ready → ∀ r1 r2 : Codeword, ∃ v1 v2 : Port,
    Completes (.synd (port r1) 0) s v1 0 ∧ Completes (.synd (port r2) 0) s v2 0 ∧
    Completes (.synd (port (r1 ^^^ r2)) 0) s (v1 ^^^ v2) 0 ∧
    element v1 1 = fieldProduct (element v1 0) (element v1 0) ∧
    element v1 3 = fieldProduct (element v1 1) (element v1 1) ∧
    element v1 5 = fieldProduct (element v1 2) (element v1 2)

/-- R124, R125, R127, R128: KEYSOLVE completes on every SVEC with the solver's locator: 1 to 4 coefficients, the leading one 1, and the
constant polynomial 1 when UNCORR = 1. -/
def Obligations.KeysolveDeliversALocator : Prop :=
  ∀ s : State,
    (∀ a b : Port, s.ready = false → Refuses (.keysolve a b) s .notReady) ∧
    (∀ a b : Port, s.ready = true → ¬ (Instr.keysolve a b).WellFormed → Refuses (.keysolve a b) s .operand) ∧
    (s.Ready → ∀ v : BitVec 24, ∃ l : Locator,
      keysolve Tables.built (svecOperand (port v)) = some l ∧
      Completes (.keysolve (port v) 0) s (packLvec l.coeffs) (port (BitVec.ofBool l.uncorrectable)) ∧
      1 ≤ l.coeffs.length ∧ l.coeffs.length ≤ 4 ∧ l.coeffs.head? = some 1 ∧
      (l.uncorrectable = true → l.coeffs = [1]))

/-- R127, corner cases: the all-zero SVEC gives the locator 1 and UNCORR = 0; a vector with S₄, S₅, S₆ zero that is not all zero is
uncorrectable. -/
def Obligations.KeysolveOnLowSyndromesAlone : Prop :=
  ∀ s : State, s.Ready → ∀ v : BitVec 12,
    (v = 0 → Completes (.keysolve (port v) 0) s 0x10001 0) ∧
    (v ≠ 0 → Completes (.keysolve (port v) 0) s 0x10001 1)

/-- 45_key_equation.md section 6, which the spec marks informative: when KEYSOLVE reports no failure, its locator solves the key
equation: the coefficients of `x^3`, `x^4` and `x^5` in the product of the locator (as the auxiliary polynomial, least significant first)
and the syndrome polynomial are 0. -/
def Obligations.KeysolveLocatorSolvesTheKeyEquation : Prop :=
  ∀ (v : BitVec 24) (l : Locator), keysolve Tables.built (svecOperand (port v)) = some l → l.uncorrectable = false →
    ∀ k, 3 ≤ k → k < 6 →
      (List.range (k + 1)).foldl
        (fun acc i => acc ^^^ fieldProduct (l.coeffs.getD i 0) (element (port v) (k - i))) 0 = 0

/-- R126: for any field tables, the sequencer, started in `K_INIT`, reaches `K_DONE` with the locator of the structured procedure. That
KEYSOLVE means the procedure, and the sequencer is a second definition beside it, is the model's choice (log entry 13). -/
def Obligations.SequencerRefinesKeysolve : Prop :=
  ∀ (t : Tables) (v : Vector GF16 6) (l : Locator), keysolve t v = some l →
    ∃ n, (seqRun t n (seqStart v)).bind seqResult = some l

/-- R130 to R133: ROOTFIND tries `α^0` to `α^14` in order and delivers the exponents of the first `size − 1` roots; with fewer roots it
delivers none and UNCORR = 1. -/
def Obligations.RootfindScansThePowersOfAlpha : Prop :=
  ∀ s : State,
    (∀ a b : Port, s.ready = false → Refuses (.rootfind a b) s .notReady) ∧
    (∀ a b : Port, s.ready = true → ¬ (Instr.rootfind a b).WellFormed → Refuses (.rootfind a b) s .operand) ∧
    (s.Ready → ∀ l : List GF16, 1 ≤ l.length → l.length ≤ 4 →
      let roots := (List.range 15).filter fun j => fieldEval l (fieldPower 2 j) == 0
      (l.length - 1 ≤ roots.length →
        Completes (.rootfind (packLvec l) 0) s (packOvec ((roots.take (l.length - 1)).map (BitVec.ofNat 4))) 0) ∧
      (roots.length < l.length - 1 → Completes (.rootfind (packLvec l) 0) s 0 1))

/-- R134, R135: CORRECT, in every state, flips bit `k` of the word once for each time `k` stands among the offsets. -/
def Obligations.CorrectFlipsTheOffsets : Prop :=
  ∀ s : State,
    (∀ a b : Port, ¬ (Instr.correct a b).WellFormed → Refuses (.correct a b) s .operand) ∧
    (∀ (w : Codeword) (o : List LogVal), o.length ≤ 3 → (∀ p ∈ o, p.toNat ≤ 14) →
      ∃ c : Codeword, Completes (.correct (port w) (packOvec o)) s (port c) 0 ∧
        ∀ k < 15, c.getLsbD k = (w.getLsbD k ^^ decide (o.count (BitVec.ofNat 4 k) % 2 = 1)))

/-- R136, R137: DECODE is SYND, KEYSOLVE, ROOTFIND and CORRECT one after the other, its flags UNCORR from either solver and errorsFound
the number of offsets. -/
def Obligations.DecodeIsThePipeline : Prop :=
  ∀ s : State,
    (∀ a b : Port, s.ready = false → Refuses (.decode a b) s .notReady) ∧
    (∀ a b : Port, s.ready = true → ¬ (Instr.decode a b).WellFormed → Refuses (.decode a b) s .operand) ∧
    (s.Ready → ∀ r : Codeword, ∃ (sv lv ov : Port) (c : Codeword) (u1 u2 : Bool),
      Completes (.synd (port r) 0) s sv 0 ∧
      Completes (.keysolve sv 0) s lv (port (BitVec.ofBool u1)) ∧
      Completes (.rootfind lv 0) s ov (port (BitVec.ofBool u2)) ∧
      Completes (.correct (port r) ov) s (port c) 0 ∧
      Completes (.decode (port r) 0) s (port c)
        (BitVec.ofNat 64 ((u1 || u2).toNat + 16 * (ov.toNat / 2 ^ 12))))

/-- R138, R139 items 1 and 2: for every message and every error mask of weight at most 3, ENCODE completes with the codeword, and
DECODE of the corrupted codeword gives it back, with errorsFound the weight of the mask and UNCORR = 0. -/
def Obligations.DecodeCorrectsUpToThreeErrors : Prop :=
  ∀ s : State, s.Ready → ∀ (m : Msg) (e : Codeword), weight e ≤ 3 →
    Completes (.encode (port m) 0) s (port (codewordOf m)) 0 ∧
    Completes (.decode (port (codewordOf m ^^^ e)) 0) s (port (codewordOf m)) (BitVec.ofNat 64 (16 * weight e))

/-- R138, R139 item 3: DECODE on every received word: with UNCORR = 0 the result is a codeword that differs from the word in exactly
errorsFound bits, at most 3; with UNCORR = 1 the word comes back unchanged, errorsFound is 0, and no codeword is within 3 bits. -/
def Obligations.DecodeIsBoundedDistanceDecoding : Prop :=
  ∀ s : State, s.Ready → ∀ r : Codeword,
    (∃ (m : Msg) (n : Nat), n ≤ 3 ∧ weight (r ^^^ codewordOf m) = n ∧
      Completes (.decode (port r) 0) s (port (codewordOf m)) (BitVec.ofNat 64 (16 * n))) ∨
    ((∀ m : Msg, 3 < weight (r ^^^ codewordOf m)) ∧ Completes (.decode (port r) 0) s (port r) 1)

/-- R57: the rule's own example line, and a line with packed vectors in list form, read as the command word and the response they
stand for. -/
def Obligations.ScriptLinesRead : Prop :=
  readLine "GFMUL 0x7, 0x9 => OK 0xA".toList =
    some (encode (.gfmul 7 9), some (.done 0xA 0)) ∧
  readLine "CORRECT 0x5C1D, <2,4,5> => OK 0x5C29 # section 5".toList =
    some (encode (.correct 0x5C1D 0x3542), some (.done 0x5C29 0)) ∧
  readLine "SYND 0x5C1D => OK [0x1,0x1,0x2,0x1,0x6,0x4]".toList =
    some (encode (.synd 0x5C1D 0), some (.done 0x461211 0)) ∧
  readLine "DECODE 0x8000 => ERR_OPERAND".toList = some (encode (.decode 0x8000 0), some (.refused .operand))

/-- R8, R22, R36: a command sequence is a parameter: what any sequence of moves answers, and the items it leaves, depend on the sequence
and on the eight items it starts from, and on nothing else. -/
def Obligations.SequenceOutcomeDependsOnTheItemsAlone : Prop :=
  ∀ (moves : List Input) (s s' : State), SameItems s s' →
    responsesTo moves s = responsesTo moves s' ∧
    ∀ t t', runSequence moves s = .next t → runSequence moves s' = .next t' → SameItems t t'

/-- R36, R46, R155: every command sequence, from every state, runs to its end, one response for each command, in order: what a sequence
does after a first part is what its second part does from the state the first part leaves. -/
def Obligations.SequencesRunToTheirEndInOrder : Prop :=
  ∀ (first second : List Input) (s : State), ∃ t, runSequence first s = .next t ∧ t.pending = s.pending ∧
    (responsesTo first s).length = (first.filter fun m => m != .reset).length ∧
    runSequence (first ++ second) s = runSequence second t ∧
    responsesTo (first ++ second) s = responsesTo first s ++ responsesTo second t

/-- R18, R22, R23, R101: every command sequence keeps the invariant, from every state that has it. -/
def Obligations.SequencesKeepInv : Prop :=
  ∀ (moves : List Input) (s t : State), s.Inv → runSequence moves s = .next t → t.Inv
end

