-- ==== Sys2Proof/Laws/Decode.lean ====
section
/-! SUPPORT. The fields of an encoded command word (R45). -/

namespace Sys2Proof

/-- The opcode field of a command's word. -/
theorem encode_op (i : Instr) : (encode i).op = i.opcode := by
  unfold encode CommandWord.op
  ext k hk
  rw [BitVec.getElem_extractLsb', BitVec.getLsbD_append, BitVec.getLsbD_append]
  simp only [show ¬ 128 + k < 64 by omega, show ¬ 128 + k - 64 < 64 by omega, show 128 + k - 64 - 64 = k by omega]
  simp [hk]

/-- The first port of a command's word. -/
theorem encode_a (i : Instr) : (encode i).a = i.portA := by
  unfold encode CommandWord.a
  ext k hk
  rw [BitVec.getElem_extractLsb', BitVec.getLsbD_append, BitVec.getLsbD_append]
  simp only [show ¬ 64 + k < 64 by omega, show 64 + k - 64 = k by omega]
  simp [hk]

/-- The second port of a command's word. -/
theorem encode_b (i : Instr) : (encode i).b = i.portB := by
  unfold encode CommandWord.b
  ext k hk
  rw [BitVec.getElem_extractLsb', BitVec.getLsbD_append]
  simp [hk]

end Sys2Proof
end

