-- ==== Sys2Proof/Laws/Fields.lean ====
section
/-! SUPPORT. What the field procedures give with the tables of a successful INIT, in terms of the tables the spec prints; and that INIT
builds those tables. -/

namespace Sys2Proof.Machine

/-- `gf_build` with the unit's constants gives the tables the spec prints (R67, R68). -/
theorem gfBuild_eq_built : gfBuild Config.alpha Config.modulus = Tables.built := by decide +kernel

/-- `gf_mul` with those tables has a value for every pair, the product modulo `x⁴+x+1` (R72). -/
theorem gfMul_built : ∀ x y : GF16, gfMul Tables.built x y = some (fieldProduct x y) := by decide +kernel

/-- `gf_div` with those tables undoes the product (R73). -/
theorem gfDiv_built : ∀ x y : GF16, y ≠ 0 → gfDiv Tables.built (fieldProduct x y) y = some x := by decide +kernel

/-- `gf_pow` with those tables depends on the exponent modulo 15 alone (R74). -/
theorem gfPow_built_add_fifteen (x : GF16) (e : Nat) : gfPow Tables.built x (e + 15) = gfPow Tables.built x e := by
  unfold gfPow
  split
  · rfl
  · cases Tables.built.readLog x with
    | none => rfl
    | some l =>
      have h : l.toNat * (e + 15) % 15 = l.toNat * e % 15 := by rw [Nat.mul_add, Nat.add_mul_mod_self_right]
      simp [h]

end Sys2Proof.Machine
end

