-- ==== Sys2Proof/Laws/State.lean ====
section
/-! SUPPORT. One lemma per field per named update of the state, so that no later proof unfolds a record update. -/

namespace Sys2Proof.Machine

@[simp] theorem State.respond_exp (s : State) (r : Response) : (s.respond r).exp = s.exp := rfl
@[simp] theorem State.respond_log (s : State) (r : Response) : (s.respond r).log = s.log := rfl
@[simp] theorem State.respond_minpoly (s : State) (r : Response) : (s.respond r).minpoly = s.minpoly := rfl
@[simp] theorem State.respond_nmin (s : State) (r : Response) : (s.respond r).nmin = s.nmin := rfl
@[simp] theorem State.respond_gen (s : State) (r : Response) : (s.respond r).gen = s.gen := rfl
@[simp] theorem State.respond_recip (s : State) (r : Response) : (s.respond r).recip = s.recip := rfl
@[simp] theorem State.respond_ready (s : State) (r : Response) : (s.respond r).ready = s.ready := rfl
@[simp] theorem State.respond_cfgerr (s : State) (r : Response) : (s.respond r).cfgerr = s.cfgerr := rfl
@[simp] theorem State.respond_pending (s : State) (r : Response) : (s.respond r).pending = s.pending := rfl
@[simp] theorem State.respond_resp (s : State) (r : Response) : (s.respond r).resp = some r := rfl
@[simp] theorem State.respond_tables (s : State) (r : Response) : (s.respond r).tables = s.tables := rfl

@[simp] theorem State.complete_exp (s : State) (lo hi : Port) : (s.complete lo hi).exp = s.exp := rfl
@[simp] theorem State.complete_log (s : State) (lo hi : Port) : (s.complete lo hi).log = s.log := rfl
@[simp] theorem State.complete_minpoly (s : State) (lo hi : Port) : (s.complete lo hi).minpoly = s.minpoly := rfl
@[simp] theorem State.complete_nmin (s : State) (lo hi : Port) : (s.complete lo hi).nmin = s.nmin := rfl
@[simp] theorem State.complete_gen (s : State) (lo hi : Port) : (s.complete lo hi).gen = s.gen := rfl
@[simp] theorem State.complete_recip (s : State) (lo hi : Port) : (s.complete lo hi).recip = s.recip := rfl
@[simp] theorem State.complete_ready (s : State) (lo hi : Port) : (s.complete lo hi).ready = s.ready := rfl
@[simp] theorem State.complete_cfgerr (s : State) (lo hi : Port) : (s.complete lo hi).cfgerr = s.cfgerr := rfl
@[simp] theorem State.complete_pending (s : State) (lo hi : Port) : (s.complete lo hi).pending = s.pending := rfl
@[simp] theorem State.complete_resp (s : State) (lo hi : Port) : (s.complete lo hi).resp = some (.done lo hi) := rfl
@[simp] theorem State.complete_tables (s : State) (lo hi : Port) : (s.complete lo hi).tables = s.tables := rfl

@[simp] theorem State.refuse_exp (s : State) (e : ErrCode) : (s.refuse e).exp = s.exp := rfl
@[simp] theorem State.refuse_log (s : State) (e : ErrCode) : (s.refuse e).log = s.log := rfl
@[simp] theorem State.refuse_minpoly (s : State) (e : ErrCode) : (s.refuse e).minpoly = s.minpoly := rfl
@[simp] theorem State.refuse_nmin (s : State) (e : ErrCode) : (s.refuse e).nmin = s.nmin := rfl
@[simp] theorem State.refuse_gen (s : State) (e : ErrCode) : (s.refuse e).gen = s.gen := rfl
@[simp] theorem State.refuse_recip (s : State) (e : ErrCode) : (s.refuse e).recip = s.recip := rfl
@[simp] theorem State.refuse_ready (s : State) (e : ErrCode) : (s.refuse e).ready = s.ready := rfl
@[simp] theorem State.refuse_cfgerr (s : State) (e : ErrCode) : (s.refuse e).cfgerr = s.cfgerr := rfl
@[simp] theorem State.refuse_pending (s : State) (e : ErrCode) : (s.refuse e).pending = s.pending := rfl
@[simp] theorem State.refuse_resp (s : State) (e : ErrCode) : (s.refuse e).resp = some (.refused e) := rfl
@[simp] theorem State.refuse_tables (s : State) (e : ErrCode) : (s.refuse e).tables = s.tables := rfl

@[simp] theorem State.blank_exp (s : State) : s.blank.exp = Vector.replicate 16 none := rfl
@[simp] theorem State.blank_log (s : State) : s.blank.log = Vector.replicate 16 none := rfl
@[simp] theorem State.blank_minpoly (s : State) : s.blank.minpoly = Vector.replicate 6 none := rfl
@[simp] theorem State.blank_nmin (s : State) : s.blank.nmin = none := rfl
@[simp] theorem State.blank_gen (s : State) : s.blank.gen = none := rfl
@[simp] theorem State.blank_recip (s : State) : s.blank.recip = none := rfl
@[simp] theorem State.blank_ready (s : State) : s.blank.ready = s.ready := rfl
@[simp] theorem State.blank_cfgerr (s : State) : s.blank.cfgerr = s.cfgerr := rfl
@[simp] theorem State.blank_pending (s : State) : s.blank.pending = s.pending := rfl
@[simp] theorem State.blank_resp (s : State) : s.blank.resp = s.resp := rfl

@[simp] theorem State.afterReset_exp (s : State) : s.afterReset.exp = Vector.replicate 16 none := rfl
@[simp] theorem State.afterReset_log (s : State) : s.afterReset.log = Vector.replicate 16 none := rfl
@[simp] theorem State.afterReset_minpoly (s : State) : s.afterReset.minpoly = Vector.replicate 6 none := rfl
@[simp] theorem State.afterReset_nmin (s : State) : s.afterReset.nmin = none := rfl
@[simp] theorem State.afterReset_gen (s : State) : s.afterReset.gen = none := rfl
@[simp] theorem State.afterReset_recip (s : State) : s.afterReset.recip = none := rfl
@[simp] theorem State.afterReset_ready (s : State) : s.afterReset.ready = false := rfl
@[simp] theorem State.afterReset_cfgerr (s : State) : s.afterReset.cfgerr = false := rfl
@[simp] theorem State.afterReset_pending (s : State) : s.afterReset.pending = s.pending := rfl
@[simp] theorem State.afterReset_resp (s : State) : s.afterReset.resp = none := rfl

@[simp] theorem State.present_exp (s : State) (m : Input) : (s.present m).exp = s.exp := rfl
@[simp] theorem State.present_log (s : State) (m : Input) : (s.present m).log = s.log := rfl
@[simp] theorem State.present_minpoly (s : State) (m : Input) : (s.present m).minpoly = s.minpoly := rfl
@[simp] theorem State.present_nmin (s : State) (m : Input) : (s.present m).nmin = s.nmin := rfl
@[simp] theorem State.present_gen (s : State) (m : Input) : (s.present m).gen = s.gen := rfl
@[simp] theorem State.present_recip (s : State) (m : Input) : (s.present m).recip = s.recip := rfl
@[simp] theorem State.present_ready (s : State) (m : Input) : (s.present m).ready = s.ready := rfl
@[simp] theorem State.present_cfgerr (s : State) (m : Input) : (s.present m).cfgerr = s.cfgerr := rfl
@[simp] theorem State.present_pending (s : State) (m : Input) : (s.present m).pending = some m := rfl
@[simp] theorem State.present_resp (s : State) (m : Input) : (s.present m).resp = s.resp := rfl

@[simp] theorem State.taken_exp (s : State) : s.taken.exp = s.exp := rfl
@[simp] theorem State.taken_log (s : State) : s.taken.log = s.log := rfl
@[simp] theorem State.taken_minpoly (s : State) : s.taken.minpoly = s.minpoly := rfl
@[simp] theorem State.taken_nmin (s : State) : s.taken.nmin = s.nmin := rfl
@[simp] theorem State.taken_gen (s : State) : s.taken.gen = s.gen := rfl
@[simp] theorem State.taken_recip (s : State) : s.taken.recip = s.recip := rfl
@[simp] theorem State.taken_ready (s : State) : s.taken.ready = s.ready := rfl
@[simp] theorem State.taken_cfgerr (s : State) : s.taken.cfgerr = s.cfgerr := rfl
@[simp] theorem State.taken_resp (s : State) : s.taken.resp = s.resp := rfl
@[simp] theorem State.taken_pending (s : State) : s.taken.pending = none := rfl
@[simp] theorem State.taken_tables (s : State) : s.taken.tables = s.tables := rfl
@[simp] theorem State.present_taken (s : State) (m : Input) : (s.present m).taken = s.taken := rfl

@[simp] theorem State.tables_exp (s : State) : s.tables.exp = s.exp := rfl
@[simp] theorem State.tables_log (s : State) : s.tables.log = s.log := rfl

@[simp] theorem State.configFailed_exp (s : State) : s.configFailed.exp = Vector.replicate 16 none := rfl
@[simp] theorem State.configFailed_log (s : State) : s.configFailed.log = Vector.replicate 16 none := rfl
@[simp] theorem State.configFailed_minpoly (s : State) : s.configFailed.minpoly = Vector.replicate 6 none := rfl
@[simp] theorem State.configFailed_nmin (s : State) : s.configFailed.nmin = none := rfl
@[simp] theorem State.configFailed_gen (s : State) : s.configFailed.gen = none := rfl
@[simp] theorem State.configFailed_recip (s : State) : s.configFailed.recip = none := rfl
@[simp] theorem State.configFailed_ready (s : State) : s.configFailed.ready = false := rfl
@[simp] theorem State.configFailed_cfgerr (s : State) : s.configFailed.cfgerr = true := rfl
@[simp] theorem State.configFailed_pending (s : State) : s.configFailed.pending = s.pending := rfl
@[simp] theorem State.configFailed_resp (s : State) : s.configFailed.resp = some (.refused .config) := rfl

@[simp] theorem State.constantsBuilt_exp (t : Tables) (c : Scan) (s : State) :
    (s.constantsBuilt t c).exp = t.exp := rfl
@[simp] theorem State.constantsBuilt_log (t : Tables) (c : Scan) (s : State) :
    (s.constantsBuilt t c).log = t.log := rfl
@[simp] theorem State.constantsBuilt_minpoly (t : Tables) (c : Scan) (s : State) :
    (s.constantsBuilt t c).minpoly = c.minpoly := rfl
@[simp] theorem State.constantsBuilt_nmin (t : Tables) (c : Scan) (s : State) :
    (s.constantsBuilt t c).nmin = some (BitVec.ofNat 3 c.nmin) := rfl
@[simp] theorem State.constantsBuilt_gen (t : Tables) (c : Scan) (s : State) :
    (s.constantsBuilt t c).gen = genProduct c.minpoly c.nmin := rfl
@[simp] theorem State.constantsBuilt_recip (t : Tables) (c : Scan) (s : State) :
    (s.constantsBuilt t c).recip = (genProduct c.minpoly c.nmin).bind genReciprocal := rfl
@[simp] theorem State.constantsBuilt_ready (t : Tables) (c : Scan) (s : State) :
    (s.constantsBuilt t c).ready = true := rfl
@[simp] theorem State.constantsBuilt_cfgerr (t : Tables) (c : Scan) (s : State) :
    (s.constantsBuilt t c).cfgerr = false := rfl
@[simp] theorem State.constantsBuilt_pending (t : Tables) (c : Scan) (s : State) :
    (s.constantsBuilt t c).pending = s.pending := rfl
@[simp] theorem State.constantsBuilt_resp (t : Tables) (c : Scan) (s : State) :
    (s.constantsBuilt t c).resp = some (.done 0#64 0#64) := rfl

/-- A refused command's next state is determined by the code. -/
theorem State.refuse_inj {s : State} {e f : ErrCode} (h : s.refuse e = s.refuse f) : e = f := by
  have h := congrArg State.resp h
  simpa using h

/-- Completing and refusing never give the same state. -/
theorem State.complete_ne_refuse (s : State) (lo hi : Port) (e : ErrCode) : s.complete lo hi ≠ s.refuse e := by
  intro h
  have h := congrArg State.resp h
  simp at h

end Sys2Proof.Machine
end

