-- ==== Sys2Proof/Laws/Ops.lean ====
section
/-! SUPPORT. For each shared operation, once, everything it can do; and what one command can do at all. -/

namespace Sys2Proof.Machine

@[simp] theorem require_true (e : ErrCode) (s : State) (k : Result) : require true e s k = k := rfl

@[simp] theorem require_false (e : ErrCode) (s : State) (k : Result) : require false e s k = .next (s.refuse e) := rfl

@[simp] theorem answer_some (s : State) (r : Port × Port) : answer s (some r) = .next (s.complete r.1 r.2) := rfl

@[simp] theorem answer_none (s : State) : answer s none = .next (s.refuse .notReady) := rfl

/-- A check either refuses with its code or passes on to the rest. -/
theorem require_cases (ok : Bool) (e : ErrCode) (s : State) (k : Result) :
    (ok = false ∧ require ok e s k = .next (s.refuse e)) ∨ (ok = true ∧ require ok e s k = k) := by
  cases ok <;> simp

/-- The end of a command either completes with the procedure's results or answers that an item holds no value. -/
theorem answer_cases (s : State) (o : Option (Port × Port)) :
    (∃ lo hi, o = some (lo, hi) ∧ answer s o = .next (s.complete lo hi)) ∨
      (o = none ∧ answer s o = .next (s.refuse .notReady)) := by
  cases o with
  | none => exact .inr ⟨rfl, rfl⟩
  | some r => exact .inl ⟨r.1, r.2, rfl, rfl⟩

/-- A result that only puts a response on the response port: what every command but INIT gives. -/
def Responds (s : State) (k : Result) : Prop := ∃ r, k = .next (s.respond r)

/-- A refusal only responds. -/
theorem responds_refuse (s : State) (e : ErrCode) : Responds s (.next (s.refuse e)) := ⟨.refused e, rfl⟩

/-- Ending a command only responds. -/
theorem responds_answer (s : State) (o : Option (Port × Port)) : Responds s (answer s o) := by
  cases o with
  | none => exact responds_refuse s .notReady
  | some r => exact ⟨.done r.1 r.2, rfl⟩

/-- A check before something that only responds only responds. -/
theorem responds_require {s : State} {k : Result} (ok : Bool) (e : ErrCode) (h : Responds s k) :
    Responds s (require ok e s k) := by
  cases ok with
  | false => exact responds_refuse s e
  | true => exact h

/-- Every command but INIT only puts a response on the response port (R22). -/
theorem exec_responds (i : Instr) (s : State) (h : ∀ a b, i ≠ .init a b) : Responds s (exec i s) := by
  cases i with
  | init a b => exact absurd rfl (h a b)
  | _ =>
    dsimp only [exec, execRdstat, execRdgen, execRdrcp, execRdminp, execGfexp, execGflog, execGfadd, execGfsub, execGfmul,
      execGfdiv, execGfpow, execClmul, execPrecip, execPdeg, execEncode, execSynd, execKeysolve, execRootfind, execCorrect,
      execDecode]
    first
    | exact responds_answer ..
    | exact responds_require _ _ (responds_answer ..)
    | exact responds_require _ _ (responds_require _ _ (responds_answer ..))
    | exact responds_require _ _ (responds_require _ _ (responds_require _ _ (responds_answer ..)))

/-- What the build of INIT can do: it completes with READY = 1, or ends with `ERR_CONFIG` and no value anywhere (R100, R101). -/
theorem buildAll_cases (alpha : GF16) (modulus : BitVec 8) (s : State) :
    (genBuild alpha (gfBuild alpha modulus) = none ∧
      buildAll alpha modulus s = s.configFailed) ∨
    (∃ c, genBuild alpha (gfBuild alpha modulus) = some c ∧
      buildAll alpha modulus s = s.constantsBuilt (gfBuild alpha modulus) c) := by
  unfold buildAll
  cases genBuild alpha (gfBuild alpha modulus) with
  | none => exact .inl ⟨rfl, rfl⟩
  | some c => exact .inr ⟨c, rfl, rfl⟩

end Sys2Proof.Machine
end

