-- ==== Sys2Proof/Laws/Issue.lean ====
section
/-! SUPPORT. What one move, one step and a sequence of moves can do, each said once. -/

namespace Sys2Proof.Machine

/-- Everything one move can do: a reset, a command executed, or a reserved opcode refused (R36, R48, R170). -/
theorem issue_cases (m : Input) (s : State) :
    (m = .reset ∧ issue m s = .next s.afterReset) ∨
    (∃ w i, m = .command w ∧ decode w = .ok i ∧ issue m s = exec i s) ∨
    (∃ w e, m = .command w ∧ decode w = .error e ∧ issue m s = .next (s.refuse .illegalOp)) := by
  cases m with
  | reset => exact .inl ⟨rfl, rfl⟩
  | command w =>
    cases h : decode w with
    | ok i => exact .inr (.inl ⟨w, i, rfl, h, by simp only [issue, h]⟩)
    | error e => exact .inr (.inr ⟨w, e, rfl, h, by simp only [issue, h, State.illegal]⟩)

/-- A step carries out the move at the ports, or waits. -/
theorem step_cases (s : State) :
    (s.pending = none ∧ step s = .next s) ∨ (∃ m, s.pending = some m ∧ step s = issue m s.taken) := by
  cases h : s.pending with
  | none => exact .inl ⟨rfl, by simp only [step, h]⟩
  | some m => exact .inr ⟨m, rfl, by simp only [step, h]⟩

@[simp] theorem runSequence_nil (s : State) : runSequence [] s = .next s := rfl

@[simp] theorem responsesTo_nil (s : State) : responsesTo [] s = [] := rfl

/-- A sequence goes on from the state its first move leaves. -/
theorem runSequence_cons {m : Input} {s t : State} (rest : List Input) (h : issue m s = .next t) :
    runSequence (m :: rest) s = runSequence rest t := by
  simp only [runSequence, h]

/-- The responses of a sequence are those of its first move, then those of the rest. -/
theorem responsesTo_cons {m : Input} {s t : State} (rest : List Input) (h : issue m s = .next t) :
    responsesTo (m :: rest) s = m.responses t ++ responsesTo rest t := by
  simp only [responsesTo, h]

end Sys2Proof.Machine
end

