-- ==== Sys2Proof/Laws/Operands.lean ====
section
/-! SUPPORT. The operand tests on bits, in the arithmetic that WellFormed uses. -/

namespace Sys2Proof.Machine

/-- No reserved bit is set exactly when the port, as a number, is below `2^w`. -/
theorem fits_iff (w : Nat) (p : Port) : fits w p = true ↔ p.toNat < 2 ^ w := by
  unfold fits
  rw [beq_iff_eq, ← BitVec.toNat_inj, BitVec.toNat_ushiftRight, Nat.shiftRight_eq_div_pow]
  simp [Nat.div_eq_zero_iff]

/-- An unused port is zero exactly when it passes the test of width 0. -/
theorem fits_zero_iff (p : Port) : fits 0 p = true ↔ p = 0#64 := by
  rw [fits_iff, ← BitVec.toNat_inj]
  simp

/-- An element of a packed vector, as a number. -/
theorem element_toNat (p : Port) (i : Nat) : (element p i).toNat = nibbleNat p i := by
  unfold element nibbleNat
  rw [BitVec.extractLsb'_toNat, Nat.shiftRight_eq_div_pow, Nat.pow_mul]

end Sys2Proof.Machine
end

