-- ==== Sys2Proof/Laws/PerInstr.lean ====
section
/-! SUPPORT. Statements for all commands, proved command by command. Family OpcodeField: the opcode in a command's word is its own and is no
reserved opcode (30_encoding.md rules R47, R48). -/

namespace Sys2Proof.Laws.OpcodeField

/-- The opcode field of the command's word is the command's opcode, which is not reserved. -/
def Statement (i : Instr) : Prop :=
  (encode i).op = i.opcode ∧ i.opcode ∉ Machine.reservedOpcodes

theorem init (a b : Port) : Statement (.init a b) := ⟨encode_op _, by dsimp only [Instr.opcode]; decide⟩

theorem rdstat (a b : Port) : Statement (.rdstat a b) := ⟨encode_op _, by dsimp only [Instr.opcode]; decide⟩

theorem rdgen (a b : Port) : Statement (.rdgen a b) := ⟨encode_op _, by dsimp only [Instr.opcode]; decide⟩

theorem rdrcp (a b : Port) : Statement (.rdrcp a b) := ⟨encode_op _, by dsimp only [Instr.opcode]; decide⟩

theorem rdminp (a b : Port) : Statement (.rdminp a b) := ⟨encode_op _, by dsimp only [Instr.opcode]; decide⟩

theorem gfexp (a b : Port) : Statement (.gfexp a b) := ⟨encode_op _, by dsimp only [Instr.opcode]; decide⟩

theorem gflog (a b : Port) : Statement (.gflog a b) := ⟨encode_op _, by dsimp only [Instr.opcode]; decide⟩

theorem gfadd (a b : Port) : Statement (.gfadd a b) := ⟨encode_op _, by dsimp only [Instr.opcode]; decide⟩

theorem gfsub (a b : Port) : Statement (.gfsub a b) := ⟨encode_op _, by dsimp only [Instr.opcode]; decide⟩

theorem gfmul (a b : Port) : Statement (.gfmul a b) := ⟨encode_op _, by dsimp only [Instr.opcode]; decide⟩

theorem gfdiv (a b : Port) : Statement (.gfdiv a b) := ⟨encode_op _, by dsimp only [Instr.opcode]; decide⟩

theorem gfpow (a b : Port) : Statement (.gfpow a b) := ⟨encode_op _, by dsimp only [Instr.opcode]; decide⟩

theorem clmul (a b : Port) : Statement (.clmul a b) := ⟨encode_op _, by dsimp only [Instr.opcode]; decide⟩

theorem precip (a b : Port) : Statement (.precip a b) := ⟨encode_op _, by dsimp only [Instr.opcode]; decide⟩

theorem pdeg (a b : Port) : Statement (.pdeg a b) := ⟨encode_op _, by dsimp only [Instr.opcode]; decide⟩

theorem encode (a b : Port) : Statement (.encode a b) := ⟨encode_op _, by dsimp only [Instr.opcode]; decide⟩

theorem synd (a b : Port) : Statement (.synd a b) := ⟨encode_op _, by dsimp only [Instr.opcode]; decide⟩

theorem keysolve (a b : Port) : Statement (.keysolve a b) := ⟨encode_op _, by dsimp only [Instr.opcode]; decide⟩

theorem rootfind (a b : Port) : Statement (.rootfind a b) := ⟨encode_op _, by dsimp only [Instr.opcode]; decide⟩

theorem correct (a b : Port) : Statement (.correct a b) := ⟨encode_op _, by dsimp only [Instr.opcode]; decide⟩

theorem decode (a b : Port) : Statement (.decode a b) := ⟨encode_op _, by dsimp only [Instr.opcode]; decide⟩

end Sys2Proof.Laws.OpcodeField
end

