-- ==== Sys2Proof/Tests/Slice0.lean ====
section
/-! SUPPORT. The model's own tests. Expected values are the spec's: the command words and responses of 95_test_vectors.md, or words
written out from 30_encoding.md rules R45 and R47. Witnesses show that the hypotheses of each statement can be met. -/

set_option Elab.async false

namespace Sys2Proof.Tests

open Sys2Proof.Machine

/-- The unit after a successful INIT, with no host move pending. -/
def readyState : State := State.reset.initialised

/-- The response a command gives in a state. -/
def respOf (i : Instr) (s : State) : Option Response :=
  match exec i s with
  | .next t => t.resp
  | _ => none

/-! ### WellFormed: one ill-formed command for each check -/

theorem test_wf_accepts : (Instr.gfmul 0x7 0x9).WellFormed ∧ (Instr.rootfind 0x4ED11 0).WellFormed := by decide

theorem test_wf_reserved_bit_in_a : ¬ (Instr.gfexp 16 0).WellFormed := by decide

theorem test_wf_reserved_bit_in_b : ¬ (Instr.gfpow 2 16).WellFormed := by decide

theorem test_wf_unused_port_b : ¬ (Instr.pdeg 1 1).WellFormed := by decide

theorem test_wf_unused_port_a : ¬ (Instr.init 1 0).WellFormed := by decide

theorem test_wf_lvec_size_zero : ¬ (Instr.rootfind 0x00001 0).WellFormed := by decide

theorem test_wf_lvec_size_five : ¬ (Instr.rootfind 0x50001 0).WellFormed := by decide

theorem test_wf_lvec_absent_coefficient : ¬ (Instr.rootfind 0x20101 0).WellFormed := by decide

theorem test_wf_ovec_offset_fifteen : ¬ (Instr.correct 0x1234 0x100F).WellFormed := by decide

theorem test_wf_ovec_absent_offset : ¬ (Instr.correct 0x1234 0x0005).WellFormed := by decide

/-! ### Decoding: the word of each command, from the programs P1 to P5 or from the layout `op ‖ a ‖ b` -/

theorem test_decode_init : decode 0x0100000000000000000000000000000005#133 = .ok (.init 0 5) := by decide +kernel

theorem test_decode_rdstat : decode 0x0200000000000000000000000000000000#133 = .ok (.rdstat 0 0) := by decide +kernel

theorem test_decode_rdgen : decode 0x0300000000000000000000000000000000#133 = .ok (.rdgen 0 0) := by decide +kernel

theorem test_decode_rdrcp : decode 0x0400000000000000000000000000000000#133 = .ok (.rdrcp 0 0) := by decide +kernel

theorem test_decode_rdminp : decode 0x0500000000000000020000000000000000#133 = .ok (.rdminp 2 0) := by decide +kernel

theorem test_decode_gfexp : decode 0x0800000000000000090000000000000000#133 = .ok (.gfexp 9 0) := by decide +kernel

theorem test_decode_gflog : decode 0x0900000000000000070000000000000000#133 = .ok (.gflog 7 0) := by decide +kernel

theorem test_decode_gfadd : decode 0x0A00000000000000070000000000000009#133 = .ok (.gfadd 7 9) := by decide +kernel

theorem test_decode_gfsub : decode 0x0B00000000000000070000000000000009#133 = .ok (.gfsub 7 9) := by decide +kernel

theorem test_decode_gfmul : decode 0x0C00000000000000070000000000000009#133 = .ok (.gfmul 7 9) := by decide +kernel

theorem test_decode_gfdiv : decode 0x0D000000000000000A0000000000000009#133 = .ok (.gfdiv 0xA 9) := by decide +kernel

theorem test_decode_gfpow : decode 0x0E00000000000000020000000000000004#133 = .ok (.gfpow 2 4) := by decide +kernel

theorem test_decode_clmul : decode 0x100000000000005C00005600AC015802B0#133 = .ok (.clmul 0x5C00 0x005600AC015802B0) := by decide +kernel

theorem test_decode_precip : decode 0x1100000000000005370000000000000000#133 = .ok (.precip 0x537 0) := by decide +kernel

theorem test_decode_pdeg : decode 0x1200000000000005370000000000000000#133 = .ok (.pdeg 0x537 0) := by decide +kernel

theorem test_decode_encode : decode 0x1800000000000000170000000000000000#133 = .ok (.encode 0x17 0) := by decide +kernel

theorem test_decode_synd : decode 0x190000000000005C1D0000000000000000#133 = .ok (.synd 0x5C1D 0) := by decide +kernel

theorem test_decode_keysolve : decode 0x1A00000000004612110000000000000000#133 = .ok (.keysolve 0x461211 0) := by decide +kernel

theorem test_decode_rootfind : decode 0x1B000000000004ED110000000000000000#133 = .ok (.rootfind 0x4ED11 0) := by decide +kernel

theorem test_decode_correct : decode 0x1C0000000000005C1D0000000000003542#133 = .ok (.correct 0x5C1D 0x3542) := by decide +kernel

theorem test_decode_decode : decode 0x1D0000000000005C1D0000000000000000#133 = .ok (.decode 0x5C1D 0) := by decide +kernel

theorem test_decode_all_zero_word : decode 0#133 = .error (.reservedOpcode 0) := by decide +kernel

theorem test_table_word_of_gfmul :
    decodeTableWord 136 0x0C00000000000000070000000000000009 = some (.gfmul 7 9) := by decide +kernel

theorem test_table_word_short : decodeTableWord 8 0x0C00000000000000070000000000000009 = none := by decide +kernel

/-! ### Meanings: responses printed in 95_test_vectors.md -/

/-- 95_test_vectors.md P1, command 4. -/
theorem test_init_answers_ok : respOf (.init 0 0) State.reset = some (.done 0 0) := by decide +kernel

/-- 95_test_vectors.md P5, command 8. -/
theorem test_init_operand : respOf (.init 0 5) readyState = some (.refused .operand) := by decide +kernel

/-- 95_test_vectors.md section 8. -/
theorem test_rdstat_after_reset : respOf (.rdstat 0 0) State.reset = some (.done 0 0) := by decide +kernel

/-- 95_test_vectors.md section 8. -/
theorem test_rdstat_ready : respOf (.rdstat 0 0) readyState = some (.done 0xD 0) := by decide +kernel

/-- 95_test_vectors.md section 8. -/
theorem test_rdgen : respOf (.rdgen 0 0) readyState = some (.done 0x537 0) := by decide +kernel

/-- 95_test_vectors.md section 8. -/
theorem test_rdgen_before_init : respOf (.rdgen 0 0) State.reset = some (.refused .notReady) := by decide +kernel

/-- 95_test_vectors.md section 8. -/
theorem test_rdrcp : respOf (.rdrcp 0 0) readyState = some (.done 0x005600AC015802B0 0) := by decide +kernel

/-- 95_test_vectors.md section 8. -/
theorem test_rdminp_last : respOf (.rdminp 2 0) readyState = some (.done 0x7 0) := by decide +kernel

/-- 95_test_vectors.md section 8. -/
theorem test_rdminp_beyond : respOf (.rdminp 3 0) readyState = some (.refused .operand) := by decide +kernel

/-- 95_test_vectors.md section 2.3. -/
theorem test_gfexp_wraps : respOf (.gfexp 15 0) readyState = some (.done 1 0) := by decide +kernel

/-- 95_test_vectors.md section 2.3. -/
theorem test_gfexp_reduced : respOf (.gfexp 14 0) readyState = some (.done 9 0) := by decide +kernel

/-- 95_test_vectors.md section 2.3. -/
theorem test_gflog_of_one : respOf (.gflog 1 0) readyState = some (.done 0 0) := by decide +kernel

/-- 95_test_vectors.md section 2.3. -/
theorem test_gflog_of_zero : respOf (.gflog 0 0) readyState = some (.refused .zeroArg) := by decide +kernel

/-- 95_test_vectors.md section 2.3. -/
theorem test_gfadd_before_init : respOf (.gfadd 7 9) State.reset = some (.done 0xE 0) := by decide +kernel

/-- 95_test_vectors.md section 2.3. -/
theorem test_gfadd_operand : respOf (.gfadd 0x10 0) readyState = some (.refused .operand) := by decide +kernel

/-- 95_test_vectors.md section 2.3. -/
theorem test_gfsub_negates : respOf (.gfsub 0 9) readyState = some (.done 9 0) := by decide +kernel

/-- 95_test_vectors.md section 2.3. -/
theorem test_gfmul_wraps : respOf (.gfmul 9 9) readyState = some (.done 0xD 0) := by decide +kernel

/-- 95_test_vectors.md section 2.3. -/
theorem test_gfmul_zero : respOf (.gfmul 0 9) readyState = some (.done 0 0) := by decide +kernel

/-- 95_test_vectors.md section 2.3. -/
theorem test_gfdiv_negative_difference : respOf (.gfdiv 2 4) readyState = some (.done 9 0) := by decide +kernel

/-- 95_test_vectors.md section 2.3. -/
theorem test_gfdiv_zero_by_zero : respOf (.gfdiv 0 0) readyState = some (.refused .divZero) := by decide +kernel

/-- 95_test_vectors.md section 2.3. -/
theorem test_gfpow_product_wraps : respOf (.gfpow 9 14) readyState = some (.done 2 0) := by decide +kernel

/-- 95_test_vectors.md section 2.3. -/
theorem test_gfpow_base_zero : respOf (.gfpow 0 0) readyState = some (.refused .zeroArg) := by decide +kernel

/-- 95_test_vectors.md section 3.1. -/
theorem test_clmul_squares : respOf (.clmul 0xFFFFFFFFFFFFFFFF 0xFFFFFFFFFFFFFFFF) State.reset = some (.done 0x5555555555555555 0x5555555555555555) := by decide +kernel

/-- 95_test_vectors.md section 3.1. -/
theorem test_clmul_crosses_halves : respOf (.clmul 0x8000000000000000 3) State.reset = some (.done 0x8000000000000000 1) := by decide +kernel

/-- 95_test_vectors.md section 3.2. -/
theorem test_precip_of_one : respOf (.precip 1 0) State.reset = some (.done 0 1) := by decide +kernel

/-- 95_test_vectors.md section 3.2. -/
theorem test_precip_of_generator : respOf (.precip 0x537 0) State.reset = some (.done 0x005600AC015802B0 0) := by decide +kernel

/-- 95_test_vectors.md section 3.3. -/
theorem test_pdeg_top : respOf (.pdeg 0x8000000000000000 0) State.reset = some (.done 63 0) := by decide +kernel

/-- 95_test_vectors.md section 3.3. -/
theorem test_pdeg_zero : respOf (.pdeg 0 0) State.reset = some (.refused .zeroArg) := by decide +kernel

/-- 95_test_vectors.md section 5. -/
theorem test_encode_self_test : respOf (.encode 0x17 0) readyState = some (.done 0x5C29 0) := by decide +kernel

/-- 95_test_vectors.md section 4. -/
theorem test_encode_shifted_form : respOf (.encode 0x5C00 0) readyState = some (.refused .operand) := by decide +kernel

/-- 95_test_vectors.md section 5. -/
theorem test_synd_self_test : respOf (.synd 0x5C1D 0) readyState = some (.done 0x461211 0) := by decide +kernel

/-- 95_test_vectors.md section 7.0. -/
theorem test_synd_top_bit : respOf (.synd 0x4000 0) readyState = some (.done 0xA7EFD9 0) := by decide +kernel

/-- 95_test_vectors.md section 6.1. -/
theorem test_keysolve_self_test : respOf (.keysolve 0x461211 0) readyState = some (.done 0x4ED11 0) := by decide +kernel

/-- 95_test_vectors.md section 6.10. -/
theorem test_keysolve_remainder_check : respOf (.keysolve 0x010100 0) readyState = some (.done 0x10001 1) := by decide +kernel

/-- 95_test_vectors.md section 7.4. -/
theorem test_rootfind_self_test : respOf (.rootfind 0x4ED11 0) readyState = some (.done 0x3542 0) := by decide +kernel

/-- 95_test_vectors.md section 7.4. -/
theorem test_rootfind_zero_polynomial : respOf (.rootfind 0x20000 0) readyState = some (.done 0x1000 0) := by decide +kernel

/-- 95_test_vectors.md section 7.4. -/
theorem test_correct_any_order : respOf (.correct 0x1234 0x3925) State.reset = some (.done 0x1010 0) := by decide +kernel

/-- 95_test_vectors.md section 7.4. -/
theorem test_correct_duplicate : respOf (.correct 0x1234 0x2033) State.reset = some (.done 0x1234 0) := by decide +kernel

/-- 95_test_vectors.md section 7.4. -/
theorem test_decode_three_errors : respOf (.decode 0x5C1D 0) readyState = some (.done 0x5C29 0x30) := by decide +kernel

/-- 95_test_vectors.md section 7.4. -/
theorem test_decode_flagged : respOf (.decode 0x001D 0) readyState = some (.done 0x001D 1) := by decide +kernel

/-! ### INIT, steps, the sequencer, the error path -/

/-- 95_test_vectors.md P1, end state. -/
theorem test_init_builds : exec (.init 0 0) State.reset = .next readyState := by
  have h : buildAll Config.alpha Config.modulus State.reset = readyState := by decide +kernel
  exact congrArg Host.Outcome.next h

/-- 95_test_vectors.md P1, command 2: GFMUL as the first command after reset. -/
theorem test_step_before_init :
    step (State.reset.withFetchWord 136 0x0C00000000000000070000000000000009) = .next (State.reset.refuse .notReady) := rfl

/-- 95_test_vectors.md P5, command 3: a reserved opcode. -/
theorem test_step_reserved :
    step (State.reset.withFetchWord 136 0x1F00000000000000000000000000000000) = .next (State.reset.refuse .illegalOp) := rfl

/-- A reset between two commands (70_reset_and_hazards.md rule R170). -/
theorem test_step_reset : step (readyState.present .reset) = .next State.reset := rfl

/-- 95_test_vectors.md P1, command 2, a reset, and P5, command 3, as one sequence: the commands are answered in order, the reset is not. -/
theorem test_sequence :
    responsesTo [.command 0x0C00000000000000070000000000000009#133, .reset, .command 0x1F00000000000000000000000000000000#133]
      State.reset = [.refused .notReady, .refused .illegalOp] := rfl

/-- 42_generator_init.md rule R101: with a modulus that builds no field the scan fails, and INIT's error path is taken. -/
theorem test_config_error :
    (buildAll 2 0x10 readyState).resp = some (.refused .config) ∧ (buildAll 2 0x10 readyState).cfgerr = true := by
  decide +kernel

/-- 95_test_vectors.md section 6.1, the sequencer states visited. -/
theorem test_sequencer_trace :
    seqVisited Tables.built 60 (seqStart (svecOperand 0x461211)) =
      [.kInit, .kNorm, .kTest, .kReduce, .kCmp, .kShift, .kReduce, .kCmp, .kSwap, .kNorm, .kNorm, .kTest, .kReduce, .kCmp,
       .kShift, .kReduce, .kCmp, .kSwap, .kNorm, .kNorm, .kTest, .kReduce, .kCmp, .kShift, .kReduce, .kCmp, .kSwap, .kNorm,
       .kNorm, .kTest, .kExtract, .kScale, .kDone] := by decide +kernel

/-- 95_test_vectors.md section 3.2: the remainder of `PRECIP 0x1F`. -/
theorem test_recip_remainder : (polyRecipRem 0x1F).map Prod.snd = some 0xF#65 := by decide +kernel

/-- 30_encoding.md rule R46: the response word of P3, command 4. -/
theorem test_response_word :
    (Response.done 0x5C29 0x30).carriedBy 0x000000000000000300000000000005C29#132 = true := by decide +kernel

/-! ### Witnesses: a state and operands that meet the hypotheses of each statement, for each of its clauses -/

theorem witness_ready : readyState.Ready := by decide

theorem witness_reset_inv_not_ready : State.reset.Inv ∧ State.reset.ready = false := by decide

/-- ReservedOpcodesAnswerIllegalOp, ChecksComeInOrder, EncodeOfDecodeGivesTheWord: words on both sides. -/
theorem witness_opcodes :
    CommandWord.op 0x1F00000000000000000000000000000000#133 ∈ reservedOpcodes ∧
    CommandWord.op 0#133 ∈ reservedOpcodes ∧
    CommandWord.op 0x0100000000000000000000000000000000#133 ∉ reservedOpcodes ∧
    decode 0x1D0000000000005C1D0000000000000000#133 = .ok (.decode 0x5C1D 0) := by decide +kernel

/-- StepRunsTheDecodedCommand: a state with a command pending, and one with none. -/
theorem witness_step :
    (State.reset.present (.command 0x0300000000000000000000000000000000#133)).pending =
      some (.command 0x0300000000000000000000000000000000#133) ∧
    decode 0x0300000000000000000000000000000000#133 = .ok (.rdgen 0 0) ∧ State.reset.pending = none := by decide +kernel

/-- ResetMayComeBetweenCommands. -/
theorem witness_reset_move : (readyState.present .reset).pending = some .reset := rfl

/-- StepKeepsInv: a state with the invariant that steps, from a ready unit with GFADD pending. -/
theorem witness_step_keeps_inv :
    (readyState.present (.command 0x0A00000000000000070000000000000009#133)).Inv ∧
    step (readyState.present (.command 0x0A00000000000000070000000000000009#133)) = .next (readyState.complete 0xE 0) := by
  exact ⟨by decide, rfl⟩

/-- SequencesKeepInv, SequenceOutcomeDependsOnTheItemsAlone: a sequence that runs from two states with the same items. -/
theorem witness_sequence :
    readyState.Inv ∧ SameItems readyState (readyState.complete 1 0) ∧
    runSequence [.command 0x0A00000000000000070000000000000009#133] readyState = .next (readyState.complete 0xE 0) ∧
    runSequence [.command 0x0A00000000000000070000000000000009#133] (readyState.complete 1 0) =
      .next (readyState.complete 0xE 0) := ⟨by decide, by decide, rfl, rfl⟩

/-- StepKeepsLogOfZeroWithoutValue. -/
theorem witness_log_of_zero :
    readyState.tables.readLog 0 = none ∧ step readyState = .next readyState := ⟨by decide, rfl⟩

/-- ErrorsAreThoseListed, RefusalChangesNoItem (a refusal that is not `ERR_CONFIG`; see `test_config_error` and `witness_config_error` for the other). -/
theorem witness_refusal :
    readyState.Inv ∧ exec (.gflog 0 0) readyState = .next (readyState.refuse .zeroArg) ∧
    (readyState.refuse .zeroArg).resp = some (.refused .zeroArg) := ⟨by decide, rfl, rfl⟩

/-- ReadyGatesThirteenCommands, ChecksComeInOrder, NotReady clauses: a gated and an ungated command. -/
theorem witness_gates :
    Instr.needsReady (.gfdiv 0x10 0) = true ∧ State.reset.ready = false ∧ Instr.needsReady (.pdeg 1 0) = false ∧
    exec (.pdeg 1 0) State.reset = .next (State.reset.complete 0 0) := ⟨rfl, rfl, rfl, rfl⟩

/-- IllFormedOperandsAreRefused: ill-formed and well-formed, gated with READY = 1 and ungated with READY = 0. -/
theorem witness_operands :
    (Instr.needsReady (.gfdiv 0x10 0) = true → readyState.ready = true) ∧ ¬ (Instr.gfdiv 0x10 0).WellFormed ∧
    (Instr.gfdiv 0xF 0xF).WellFormed ∧ (Instr.needsReady (.gfadd 0x10 0) = true → State.reset.ready = true) ∧
    ¬ (Instr.gfadd 0x10 0).WellFormed ∧ (readyState.nmin = some 3#3 ∧ (3#3).toNat ≤ (3#3).toNat) ∧
    ∀ a b, Instr.gfdiv 0xF 0xF ≠ .rdminp a b := by
  exact ⟨by decide, by decide, by decide, by decide, by decide, by decide, by intros; simp⟩

/-- OnlyInitWritesTheUnit: a command that is not INIT, and two states with the same items but different other fields. -/
theorem witness_only_init :
    (∀ a b, Instr.gfadd 7 9 ≠ .init a b) ∧ SameItems readyState (readyState.present .reset) ∧
    exec (.gfadd 7 9) readyState = .next (readyState.complete 0xE 0) := ⟨by intros; simp, by decide, rfl⟩

/-- ResultsAreZeroExtended. -/
theorem witness_results :
    readyState.Inv ∧ exec (.gfadd 7 9) readyState = .next (readyState.complete 0xE 0) ∧
    (readyState.complete 0xE 0).resp = some (.done 0xE 0) := ⟨by decide, rfl, rfl⟩

/-- InitBuildsTheConstants, RdstatReportsTheStatus, RdgenAndRdrcpReadTheConstants: both values of `a ≠ 0 ∨ b ≠ 0`, READY both ways,
and the items holding values. -/
theorem witness_format_z :
    ((0 : Port) = 0 ∧ (0 : Port) = 0) ∧ ((0 : Port) ≠ 0 ∨ (5 : Port) ≠ 0) ∧ readyState.ready = true ∧ State.reset.ready = false ∧
    readyState.nmin = some 3 ∧ readyState.gen = some 0x537 ∧ readyState.recip = some 0x005600AC015802B0 := by decide

/-- ConfigurationErrorAbortsInit: constants for which the scan fails, and INIT with the unit's own. -/
theorem witness_config_error :
    genBuild 2 (gfBuild 2 0x10) = none ∧ Instr.needsReady (.decode 0 0) = true ∧
    exec (.init 0 0) State.reset = .next readyState := by
  exact ⟨by decide +kernel, rfl, test_init_builds⟩

/-- RdminpReadsTheMinimalPolynomials: the last index below NMIN, the first not below it, and the last index. -/
theorem witness_rdminp :
    readyState.nmin = some 3#3 ∧ (2#3).toNat < (3#3).toNat ∧ readyState.readMinpoly 2 = some 0x07 ∧
    (3#3).toNat ≤ (3#3).toNat ∧ 3 ≤ (3#3).toNat ∧ 3 ≤ (7#3).toNat ∧ ¬ (Instr.rdminp 8 0).WellFormed := by decide

/-- The field commands: ill-formed at the first value above the range, zero and non-zero operands. -/
theorem witness_field_commands :
    ¬ (Instr.gfexp 16 0).WellFormed ∧ ¬ (Instr.gflog 16 0).WellFormed ∧ ¬ (Instr.gfmul 0 16).WellFormed ∧
    ¬ (Instr.gfdiv 16 1).WellFormed ∧ ¬ (Instr.gfpow 1 16).WellFormed ∧ 16 ≤ (16 : Port).toNat ∧
    (0 : GF16) = 0 ∧ (1 : GF16) ≠ 0 ∧ (15 : GF16) ≠ 0 ∧ (9#4).toNat < 15 ∧
    readyState.tables.readLog 2 = some 1 ∧ readyState.tables.readLog 9 = some 14 ∧ readyState.tables.readLog 4 = some 2 ∧
    readyState.tables.readExp 15 = some 1 ∧ readyState.tables.readExp ((14 + 14) % 15) = some 0xD ∧
    readyState.tables.readExp ((1 + 15 - 2) % 15) = some 9 ∧ readyState.tables.readExp (14 * 14 % 15) = some 2 := by decide

/-- PrecipIsThePolynomialQuotient, PdegIsTheHighestSetBit, DivisionByReciprocalIsExact: zero and non-zero operands and ports, and the
smallest divisor of degree 1. -/
theorem witness_polynomial_commands :
    (1 : Port) ≠ 0 ∧ (0 : Port) = 0 ∧ (0xFFFFFFFFFFFFFFFF : Port) ≠ 0 ∧ 2 ≤ (2 : Port).toNat := by decide

/-- EncodeIsSystematic, SyndEvaluatesAtPowersOfAlpha, DecodeIsThePipeline: ill-formed at the first value above the range. -/
theorem witness_codec_operands :
    ¬ (Instr.encode 0x20 0).WellFormed ∧ ¬ (Instr.synd 0x8000 0).WellFormed ∧ ¬ (Instr.decode 0x8000 0).WellFormed ∧
    ¬ (Instr.keysolve 0x1000000 0).WellFormed ∧ ¬ (Instr.rootfind 0x80001 0).WellFormed ∧
    ¬ (Instr.correct 0x1234 0x4000).WellFormed := by decide

/-- CodewordsAreFarApartWithZeroSyndromes: two different messages and their codewords. -/
theorem witness_codewords :
    Completes (.encode (port 0#5) 0) readyState (port 0#15) 0 ∧
    Completes (.encode (port 31#5) 0) readyState (port 0x7FFF#15) 0 ∧ (0#5) ≠ 31#5 := by
  have h0 : encodeMsg readyState 0 = some 0 := by decide +kernel
  have h31 : encodeMsg readyState 31 = some 0x7FFF := by decide +kernel
  refine ⟨?_, ?_, by decide⟩
  · show answer readyState ((encodeMsg readyState 0).map low) = _
    rw [h0]; rfl
  · show answer readyState ((encodeMsg readyState 31).map low) = _
    rw [h31]; rfl

/-- KeysolveOnLowSyndromesAlone: both cases. -/
theorem witness_low_syndromes : (0 : BitVec 12) = 0 ∧ (1 : BitVec 12) ≠ 0 := by decide

/-- KeysolveLocatorSolvesTheKeyEquation, SequencerRefinesKeysolve: a vector on which the solver has a locator. -/
theorem witness_keysolve :
    keysolve Tables.built (svecOperand (port 0x461211#24)) =
      some { coeffs := [0x1, 0x1, 0xD, 0xE], uncorrectable := false } := by decide +kernel

/-- RootfindScansThePowersOfAlpha: locators of size 1 and 4, enough roots, and too few. -/
theorem witness_rootfind :
    1 ≤ [(1 : GF16)].length ∧ [(1 : GF16), 1, 13, 14].length ≤ 4 ∧
    ((List.range 15).filter fun j => fieldEval [1, 1, 13, 14] (fieldPower 2 j) == 0).length = 3 ∧
    ((List.range 15).filter fun j => fieldEval [1, 15, 10, 15] (fieldPower 2 j) == 0).length = 0 := by decide +kernel

/-- CorrectFlipsTheOffsets: three offsets, the largest among them. -/
theorem witness_offsets :
    [(0 : LogVal), 7, 14].length ≤ 3 ∧ ∀ p ∈ [(0 : LogVal), 7, 14], p.toNat ≤ 14 := by decide

/-- DecodeCorrectsUpToThreeErrors: masks of weight 0 and 3. -/
theorem witness_masks : weight 0 ≤ 3 ∧ weight 0x34 = 3 := by decide +kernel

end Sys2Proof.Tests
end

/-! Proofs about the state as a whole (10_state.md): what reset leaves (R24), and that every command but INIT leaves the
items alone and reads nothing else (R22). -/

namespace Sys2Proof.Machine

/-! ### The READY check -/

/-- A check that fails refuses, whatever comes after it. -/
theorem require_of_eq_false {ok : Bool} (h : ok = false) (e : ErrCode) (s : State) (k : Result) :
    require ok e s k = .next (s.refuse e) := by
  rw [h, require_false]

/-- READY is the first check of each of the 13 commands that need it, so with READY = 0 they are all refused (R156, R171). -/
theorem exec_refuses_notReady {i : Instr} {s : State} (hi : i.needsReady = true) (hs : s.ready = false) :
    Refuses i s .notReady := by
  cases i with
  | init | rdstat | gfadd | gfsub | clmul | precip | pdeg | correct => exact absurd hi Bool.false_ne_true
  | rdgen | rdrcp | rdminp | gfexp | gflog | gfmul | gfdiv | gfpow | encode | synd | keysolve | rootfind | decode =>
    exact require_of_eq_false hs ..

/-- Settles O7: the items by their reset values, the gated commands by the READY check. -/
theorem resetLeavesNoValues : Obligations.ResetLeavesNoValues := by
  unfold Obligations.ResetLeavesNoValues
  have hempty : State.reset.Empty := ⟨rfl, rfl, rfl, rfl, rfl, rfl⟩
  have hstatus : Completes (.rdstat 0 0) State.reset 0 0 := rfl
  exact ⟨rfl, rfl, hempty, rfl, hstatus, fun _ hi => exec_refuses_notReady hi rfl⟩

/-! ### The items alone -/

/-- A response leaves the eight items as they were. -/
theorem sameItems_respond (s : State) (r : Response) : SameItems s (s.respond r) :=
  ⟨rfl, rfl, rfl, rfl, rfl, rfl, rfl, rfl⟩

/-- Two states with the same items differ in the two ports at most. -/
theorem SameItems.exists_eq_with_ports {s t : State} (h : SameItems s t) :
    ∃ p r, t = { s with pending := p, resp := r } := by
  obtain ⟨hexp, hlog, hminpoly, hnmin, hgen, hrecip, hready, hcfgerr⟩ := h
  cases t
  subst hexp hlog hminpoly hnmin hgen hrecip hready hcfgerr
  exact ⟨_, _, rfl⟩

/-- Two results, of states `s` and `t`, that put one and the same response on the response port and do nothing else. -/
def RespondAlike (s t : State) (k l : Result) : Prop :=
  ∃ r, k = .next (s.respond r) ∧ l = .next (t.respond r)

/-- Two commands that end with the same results respond alike. -/
theorem respondAlike_answer (s t : State) (o : Option (Port × Port)) :
    RespondAlike s t (answer s o) (answer t o) := by
  cases o with
  | none => exact ⟨.refused .notReady, rfl, rfl⟩
  | some r => exact ⟨.done r.1 r.2, rfl, rfl⟩

/-- The same check before results that respond alike gives results that respond alike. -/
theorem respondAlike_require {s t : State} {k l : Result} (ok : Bool) (e : ErrCode) (h : RespondAlike s t k l) :
    RespondAlike s t (require ok e s k) (require ok e t l) := by
  cases ok with
  | false => exact ⟨.refused e, rfl, rfl⟩
  | true => exact h

/-- A command other than INIT responds alike in two states with the same items: its checks and its procedure read the operands and
the items, and never the ports. The commands stand by how many checks they make. -/
theorem exec_respondAlike {i : Instr} (hi : ∀ a b, i ≠ .init a b) {s t : State} (h : SameItems s t) :
    RespondAlike s t (exec i s) (exec i t) := by
  obtain ⟨p, r, rfl⟩ := h.exists_eq_with_ports
  cases i with
  | init a b => exact absurd rfl (hi a b)
  | clmul x y => exact respondAlike_answer _ _ (some (lowHalf (clmul x y), highHalf (clmul x y)))
  | rdstat | gfadd | gfsub => exact respondAlike_require _ _ (respondAlike_answer ..)
  | rdgen | rdrcp | gfexp | gfmul | precip | pdeg | encode | synd | keysolve | correct | decode =>
    exact respondAlike_require _ _ (respondAlike_require _ _ (respondAlike_answer ..))
  | rdminp | gflog | gfdiv | gfpow | rootfind =>
    exact respondAlike_require _ _ (respondAlike_require _ _ (respondAlike_require _ _ (respondAlike_answer ..)))

/-- Settles O19: a command other than INIT only responds, and responds alike in states with the same items. -/
theorem onlyInitWritesTheUnit : Obligations.OnlyInitWritesTheUnit := by
  unfold Obligations.OnlyInitWritesTheUnit
  intro i hi
  constructor
  · intro s t hst
    obtain ⟨r, hr⟩ := exec_responds i s hi
    cases hst.symm.trans hr
    exact ⟨sameItems_respond s r, State.respond_pending s r⟩
  · intro s s' t t' hsame hst hst'
    obtain ⟨r, hr, hr'⟩ := exec_respondAlike hi hsame
    cases hst.symm.trans hr
    cases hst'.symm.trans hr'
    rw [State.respond_resp, State.respond_resp]

end Sys2Proof.Machine

/-! Proofs about the encoding (30_encoding.md): the reserved opcodes (R48), and the operand check that a command makes right after its
READY check (R49, R156). -/

namespace Sys2Proof

open Sys2Proof.Machine

/-! ### The reserved opcodes -/

/-- No command has a reserved opcode (R48). -/
theorem Instr.opcode_not_mem_reservedOpcodes (i : Instr) : i.opcode ∉ reservedOpcodes := by
  cases i <;> dsimp only [Instr.opcode] <;> decide

/-- Either the decoder finds a command of the opcode, or the opcode is reserved and the decoder says so (R47, R48). -/
theorem commandOf_cases (op : Opcode) (a b : Port) :
    (∃ i, commandOf op a b = .ok i ∧ i.opcode = op) ∨
      (op ∈ reservedOpcodes ∧ commandOf op a b = .error (.reservedOpcode op)) := by
  unfold commandOf
  split
  case h_22 =>
    refine .inr ⟨?_, rfl⟩
    simp only [imp_false] at *
    simp only [reservedOpcodes, List.mem_cons, List.not_mem_nil, or_false, ← BitVec.toNat_inj, BitVec.reduceToNat]
    omega
  all_goals next h => exact .inl ⟨_, rfl, BitVec.eq_of_toNat_eq h.symm⟩

/-- A word whose opcode is not reserved decodes to a command of its opcode (R47). -/
theorem decode_of_not_mem_reservedOpcodes {w : CommandWord} (h : w.op ∉ reservedOpcodes) :
    ∃ i, decode w = .ok i ∧ i.opcode = w.op :=
  (commandOf_cases w.op w.a w.b).resolve_right fun hres => h hres.1

/-- A word whose opcode is reserved decodes to no command (R48). -/
theorem decode_of_mem_reservedOpcodes {w : CommandWord} (h : w.op ∈ reservedOpcodes) :
    decode w = .error (.reservedOpcode w.op) := by
  obtain ⟨i, -, hi⟩ | ⟨-, herr⟩ := commandOf_cases w.op w.a w.b
  · exact absurd (hi ▸ h) i.opcode_not_mem_reservedOpcodes
  · exact herr

end Sys2Proof

namespace Sys2Proof.Machine

/-- A word that decodes to no command is answered `ERR_ILLEGAL_OP`, and no item changes (R48). -/
theorem issue_of_decode_error {w : CommandWord} {e : DecodeError} (h : decode w = .error e) (s : State) :
    issue (.command w) s = .next (s.refuse .illegalOp) := by
  simp only [issue, h, State.illegal]

/-- Presenting a move and stepping is making it, with the ports empty again (R36). -/
theorem step_present (s : State) (m : Input) : step (s.present m) = issue m s.taken := rfl

/-- Settles O5, by the decoder's two cases. -/
theorem reservedOpcodesAnswerIllegalOp : Obligations.ReservedOpcodesAnswerIllegalOp := by
  unfold Obligations.ReservedOpcodesAnswerIllegalOp
  intro w
  refine ⟨fun hres => ?_, decode_of_not_mem_reservedOpcodes⟩
  have herr := decode_of_mem_reservedOpcodes hres
  exact ⟨herr, fun s => ⟨issue_of_decode_error herr s,
    (step_present s (.command w)).trans (issue_of_decode_error herr s.taken)⟩⟩

/-! ### The packed vectors, on bits and in arithmetic -/

/-- The size field of an LVEC, as a number (R53). -/
theorem lvecSize_eq (p : Port) : lvecSize p = p.toNat / 2 ^ 16 % 8 := by
  rw [lvecSize, BitVec.extractLsb'_toNat, Nat.shiftRight_eq_div_pow]

/-- The count field of an OVEC, as a number (R54). -/
theorem ovecCount_eq (p : Port) : ovecCount p = p.toNat / 2 ^ 12 % 4 := by
  rw [ovecCount, BitVec.extractLsb'_toNat, Nat.shiftRight_eq_div_pow]

/-- An element of a packed vector is zero exactly when it is zero as a number. -/
theorem element_eq_zero_iff (p : Port) (i : Nat) : element p i = 0#4 ↔ nibbleNat p i = 0 := by
  rw [← BitVec.toNat_inj, element_toNat, BitVec.toNat_ofNat, Nat.zero_mod]

/-- The validity of an LVEC on bits is that of R53 in arithmetic. -/
theorem lvecValid_eq (p : Port) : lvecValid p = decide (LvecValid p) := by
  rw [Bool.eq_iff_iff, decide_eq_true_iff]
  simp only [lvecValid, Bool.and_eq_true, decide_eq_true_iff, List.all_eq_true, List.mem_range, Bool.or_eq_true,
    beq_iff_eq, element_eq_zero_iff, lvecSize_eq, or_iff_not_imp_left, not_lt, and_assoc]

/-- The validity of an OVEC on bits is that of R54 in arithmetic. -/
theorem ovecValid_eq (p : Port) : ovecValid p = decide (OvecValid p) := by
  rw [Bool.eq_iff_iff, decide_eq_true_iff]
  simp only [ovecValid, List.all_eq_true, List.mem_range, ovecCount_eq]
  refine forall₂_congr fun i _ => ?_
  split
  · rw [decide_eq_true_iff, element_toNat]
  · rw [beq_iff_eq, element_eq_zero_iff]

/-! ### The operand check -/

/-- Every port fits 64 bits. -/
theorem fits_sixtyFour (p : Port) : fits 64 p = true := (fits_iff 64 p).2 p.isLt

/-- Well-formedness as the meanings test it: the packed operand is valid, and both ports fit their widths (R49). -/
theorem decide_wellFormed (i : Instr) :
    decide i.WellFormed =
      (i.packedValid && (fits i.operandWidths.1 i.portA && fits i.operandWidths.2 i.portB)) := by
  rw [Bool.eq_iff_iff, decide_eq_true_iff, Bool.and_eq_true, Bool.and_eq_true, fits_iff, fits_iff, and_comm, and_assoc]

/-- Two checks in a row with one error code are one check. -/
theorem require_require (p q : Bool) (e : ErrCode) (s : State) (k : Result) :
    require p e s (require q e s k) = require (q && p) e s k := by
  cases p <;> cases q <;> rfl

/-- A check before a refusal with the same code refuses either way. -/
theorem require_refuse (ok : Bool) (e : ErrCode) (s : State) :
    require ok e s (.next (s.refuse e)) = .next (s.refuse e) := by
  cases ok <;> rfl

/-- The end of a command is no operand error. -/
theorem answer_ne_refuse_operand (s : State) (o : Option (Port × Port)) : answer s o ≠ .next (s.refuse .operand) := by
  intro h
  obtain ⟨lo, hi, -, hdone⟩ | ⟨-, hnone⟩ := answer_cases s o
  · exact State.complete_ne_refuse s lo hi .operand (Host.Outcome.next.inj (hdone.symm.trans h))
  · cases State.refuse_inj (Host.Outcome.next.inj (hnone.symm.trans h))

/-- A check with another code brings no operand error. -/
theorem require_ne_refuse_operand {e : ErrCode} (he : e ≠ .operand) (ok : Bool) {s : State} {k : Result}
    (hk : k ≠ .next (s.refuse .operand)) : require ok e s k ≠ .next (s.refuse .operand) := by
  cases ok with
  | true => exact hk
  | false => exact fun h => he (State.refuse_inj (Host.Outcome.next.inj h))

/-- INIT's build is no operand error (R100, R101). -/
theorem buildAll_ne_refuse_operand (alpha : GF16) (modulus : BitVec 8) (s : State) :
    buildAll alpha modulus s ≠ s.refuse .operand := by
  intro h
  have hresp := congrArg State.resp h
  obtain ⟨-, hfail⟩ | ⟨c, -, hbuilt⟩ := buildAll_cases alpha modulus s
  · simp [hfail] at hresp
  · simp [hbuilt] at hresp

/-- Every command starts with the READY check, when it has one, and the operand check (R156); what comes after them is an operand
error for RDMINP at most, whose index may be out of range (R49). -/
theorem exec_eq_checks (i : Instr) (s : State) :
    ∃ k, exec i s = require (!i.needsReady || s.ready) .notReady s (require (decide i.WellFormed) .operand s k) ∧
      ((∀ a b, i ≠ .rdminp a b) → k ≠ .next (s.refuse .operand)) := by
  rw [decide_wellFormed]
  cases i with
  | init a b => exact ⟨_, rfl, fun _ h => buildAll_ne_refuse_operand _ _ _ (Host.Outcome.next.inj h)⟩
  | rdminp a b => exact ⟨_, rfl, fun h => absurd rfl (h a b)⟩
  | rdstat | rdgen | rdrcp | gfexp | gfadd | gfsub | gfmul | encode | synd | keysolve | decode =>
    exact ⟨_, rfl, fun _ => answer_ne_refuse_operand _ _⟩
  | gflog | gfdiv | gfpow =>
    exact ⟨_, rfl, fun _ => require_ne_refuse_operand (by decide) _ (answer_ne_refuse_operand _ _)⟩
  | clmul a b =>
    dsimp only [Instr.operandWidths, Instr.portA, Instr.portB]
    rw [fits_sixtyFour, fits_sixtyFour]
    exact ⟨_, rfl, fun _ => answer_ne_refuse_operand s (some (lowHalf (clmul a b), highHalf (clmul a b)))⟩
  | precip a b | pdeg a b =>
    dsimp only [Instr.operandWidths, Instr.portA]
    rw [fits_sixtyFour]
    exact ⟨_, rfl, fun _ => require_ne_refuse_operand (by decide) _ (answer_ne_refuse_operand _ _)⟩
  | rootfind a b =>
    dsimp only [Instr.packedValid]
    rw [← lvecValid_eq]
    exact ⟨_, congrArg (require s.ready .notReady s) (require_require ..), fun _ => answer_ne_refuse_operand _ _⟩
  | correct a b =>
    dsimp only [Instr.packedValid]
    rw [← ovecValid_eq]
    exact ⟨_, require_require .., fun _ => answer_ne_refuse_operand _ _⟩

/-- With the READY check passed, a command starts with its operand check. -/
theorem exec_eq_operandCheck {i : Instr} {s : State} (hready : i.needsReady = true → s.ready = true) :
    ∃ k, exec i s = require (decide i.WellFormed) .operand s k ∧
      ((∀ a b, i ≠ .rdminp a b) → k ≠ .next (s.refuse .operand)) := by
  obtain ⟨k, hexec, hk⟩ := exec_eq_checks i s
  have hgate : (!i.needsReady || s.ready) = true := by
    rwa [Bool.or_eq_true, Bool.not_eq_true', ← Bool.not_eq_true, ← imp_iff_not_or]
  rw [hgate, require_true] at hexec
  exact ⟨k, hexec, hk⟩

/-- With the READY check passed, a command that is not well-formed is refused with `ERR_OPERAND` (R49). -/
theorem exec_refuses_operand {i : Instr} {s : State} (hready : i.needsReady = true → s.ready = true)
    (hwf : ¬ i.WellFormed) : Refuses i s .operand := by
  obtain ⟨k, hexec, -⟩ := exec_eq_operandCheck hready
  exact hexec.trans (require_of_eq_false (decide_eq_false hwf) ..)

/-- With the READY check passed, a well-formed command other than RDMINP is not refused with `ERR_OPERAND` (R49). -/
theorem exec_not_refuses_operand {i : Instr} {s : State} (hready : i.needsReady = true → s.ready = true)
    (hwf : i.WellFormed) (hi : ∀ a b, i ≠ .rdminp a b) : ¬ Refuses i s .operand := by
  obtain ⟨k, hexec, hk⟩ := exec_eq_operandCheck hready
  rw [decide_eq_true hwf, require_true] at hexec
  exact fun href => hk hi (hexec.symm.trans href)

/-! ### The index of RDMINP -/

/-- RDMINP reads back an index put in its port. -/
theorem indexOperand_port (k : BitVec 3) : indexOperand (port k) = k := by
  rw [indexOperand, port, BitVec.extractLsb'_setWidth_of_le (by decide), BitVec.extractLsb'_eq_self]

/-- An index not below `NMIN` fails the check of R148. -/
theorem minpolyIndexOk_eq_false {s : State} {k n : BitVec 3} (hn : s.nmin = some n) (hle : n.toNat ≤ k.toNat) :
    minpolyIndexOk s k = false := by
  simp only [minpolyIndexOk, hn, decide_eq_false_iff_not, not_lt, hle]

/-- A ready unit refuses RDMINP with an index not below `NMIN` (R49, R148). -/
theorem rdminp_refuses_operand {s : State} {k n : BitVec 3} (hs : s.ready = true) (hn : s.nmin = some n)
    (hle : n.toNat ≤ k.toNat) : Refuses (.rdminp (port k) 0) s .operand := by
  have hindex : minpolyIndexOk s (indexOperand (port k)) = false := by
    rw [indexOperand_port, minpolyIndexOk_eq_false hn hle]
  dsimp only [Refuses, exec, execRdminp]
  rw [hs, require_true, hindex, require_false, require_refuse]

/-- Settles O16: the operand check of `exec_eq_checks`, and the index check of RDMINP. -/
theorem illFormedOperandsAreRefused : Obligations.IllFormedOperandsAreRefused := by
  unfold Obligations.IllFormedOperandsAreRefused
  intro i s hready
  refine ⟨exec_refuses_operand hready, ?_, exec_not_refuses_operand hready⟩
  rintro k n rfl hn hle
  exact rdminp_refuses_operand (hready rfl) hn hle

end Sys2Proof.Machine

/-! Proofs about the field commands (40_gf_field.md rules R75 to R81): the two refusals that all gated commands share come from the
check lemmas above; below is what a command does once its checks have passed, first for any tables, then for those of INIT. -/

namespace Sys2Proof.Machine

/-! ### Field elements in ports -/

/-- A field command reads back an element put in its port (R49, R50). -/
@[simp] theorem gfOperand_port (v : GF16) : gfOperand (port v) = v := by
  rw [gfOperand, port, BitVec.extractLsb'_setWidth_of_le (by decide), BitVec.extractLsb'_eq_self]

/-- A value in its port sets no reserved bit (R49). -/
@[simp] theorem fits_port {w : Nat} (v : BitVec w) : fits w (port v) = true := by
  rw [fits_iff, port, BitVec.toNat_setWidth]
  exact (Nat.mod_le ..).trans_lt v.isLt

/-- A zero port passes the test of an unused port. -/
@[simp] theorem fits_zero_port : fits 0 0#64 = true := rfl

/-- The element 0 in its port is the port 0. -/
theorem port_zero : port (0 : GF16) = 0 := rfl

/-- The element 1 in its port is the port 1. -/
theorem port_one : port (1 : GF16) = 1 := rfl

/-- The index or exponent 15 in its port is the port 15. -/
theorem port_fifteen : port (15 : BitVec 4) = 15 := rfl

/-- A procedure's value, zero-extended, is what the command completes with (R51). -/
theorem answer_map_low {w : Nat} {o : Option (BitVec w)} {v : BitVec w} (h : o = some v) (s : State) :
    answer s (o.map low) = .next (s.complete (port v) 0) := by
  rw [h]
  rfl

/-- A check that holds passes on to the rest. -/
theorem require_of_eq_true {ok : Bool} (h : ok = true) (e : ErrCode) (s : State) (k : Result) :
    require ok e s k = k := by
  rw [h, require_true]

/-- The check for a zero operand passes for every other operand. -/
theorem bne_zero_of_ne {v : GF16} (h : v ≠ 0) : (v != 0#4) = true := bne_iff_ne.2 h

/-! ### The field commands on elements, READY and operand checks passed -/

section
variable {s : State}

/-- GFADD answers `gf_add`, READY or not (R77). -/
theorem exec_gfadd_port (x y : GF16) (s : State) :
    exec (.gfadd (port x) (port y)) s = answer s (some (low (gfAdd x y))) := by
  simp [exec, execGfadd]

/-- GFSUB answers `gf_sub`, READY or not (R78). -/
theorem exec_gfsub_port (x y : GF16) (s : State) :
    exec (.gfsub (port x) (port y)) s = answer s (some (low (gfSub x y))) := by
  simp [exec, execGfsub]

/-- GFEXP answers the element of `EXP` (R75). -/
theorem exec_gfexp_port (hs : s.ready = true) (i : BitVec 4) :
    exec (.gfexp (port i) 0) s = answer s ((s.tables.readExp i.toNat).map low) := by
  simp [exec, execGfexp, hs]

/-- GFLOG checks for 0, then answers the element of `LOG` (R76). -/
theorem exec_gflog_port (hs : s.ready = true) (v : GF16) :
    exec (.gflog (port v) 0) s = require (v != 0#4) .zeroArg s (answer s ((s.tables.readLog v).map low)) := by
  simp [exec, execGflog, hs]

/-- GFMUL answers `gf_mul` (R79). -/
theorem exec_gfmul_port (hs : s.ready = true) (x y : GF16) :
    exec (.gfmul (port x) (port y)) s = answer s ((gfMul s.tables x y).map low) := by
  simp [exec, execGfmul, hs]

/-- GFDIV checks for a zero divisor, then answers `gf_div` (R80). -/
theorem exec_gfdiv_port (hs : s.ready = true) (x y : GF16) :
    exec (.gfdiv (port x) (port y)) s = require (y != 0#4) .divZero s (answer s ((gfDiv s.tables x y).map low)) := by
  simp [exec, execGfdiv, hs]

/-- GFPOW checks for base 0, then answers `gf_pow` (R81). -/
theorem exec_gfpow_port (hs : s.ready = true) (x e : BitVec 4) :
    exec (.gfpow (port x) (port e)) s =
      require (x != 0#4) .zeroArg s (answer s ((gfPow s.tables x e.toNat).map low)) := by
  simp [exec, execGfpow, hs]

/-- GFEXP completes with the element of `EXP` that has a value. -/
theorem gfexp_completes (hs : s.ready = true) {i : BitVec 4} {x : GF16} (hx : s.tables.readExp i.toNat = some x) :
    Completes (.gfexp (port i) 0) s (port x) 0 :=
  (exec_gfexp_port hs i).trans (answer_map_low hx s)

/-- GFLOG of a non-zero element completes with the element of `LOG` that has a value. -/
theorem gflog_completes (hs : s.ready = true) {v : GF16} {e : LogVal} (hv : v ≠ 0) (he : s.tables.readLog v = some e) :
    Completes (.gflog (port v) 0) s (port e) 0 := by
  rw [Completes, exec_gflog_port hs, require_of_eq_true (bne_zero_of_ne hv), answer_map_low he]

/-- GFLOG of 0 is refused (R76). -/
theorem gflog_zero_refuses (hs : s.ready = true) : Refuses (.gflog 0 0) s .zeroArg :=
  (port_zero ▸ exec_gflog_port hs 0).trans (require_false ..)

/-- GFMUL completes with the value of `gf_mul`. -/
theorem gfmul_completes (hs : s.ready = true) {x y z : GF16} (hz : gfMul s.tables x y = some z) :
    Completes (.gfmul (port x) (port y)) s (port z) 0 :=
  (exec_gfmul_port hs x y).trans (answer_map_low hz s)

/-- GFDIV by a non-zero element completes with the value of `gf_div`. -/
theorem gfdiv_completes (hs : s.ready = true) {x y z : GF16} (hy : y ≠ 0) (hz : gfDiv s.tables x y = some z) :
    Completes (.gfdiv (port x) (port y)) s (port z) 0 := by
  rw [Completes, exec_gfdiv_port hs, require_of_eq_true (bne_zero_of_ne hy), answer_map_low hz]

/-- GFDIV by 0 is refused, whatever the dividend (R80). -/
theorem gfdiv_zero_refuses (hs : s.ready = true) (x : GF16) : Refuses (.gfdiv (port x) 0) s .divZero :=
  (port_zero ▸ exec_gfdiv_port hs x 0).trans (require_false ..)

/-- GFPOW with a non-zero base completes with the value of `gf_pow`. -/
theorem gfpow_completes (hs : s.ready = true) {x z : GF16} {e : BitVec 4} (hx : x ≠ 0)
    (hz : gfPow s.tables x e.toNat = some z) : Completes (.gfpow (port x) (port e)) s (port z) 0 := by
  rw [Completes, exec_gfpow_port hs, require_of_eq_true (bne_zero_of_ne hx), answer_map_low hz]

/-- GFPOW with base 0 is refused, whatever the exponent (R81). -/
theorem gfpow_zero_refuses (hs : s.ready = true) (e : BitVec 4) : Refuses (.gfpow 0 (port e)) s .zeroArg :=
  (port_zero ▸ exec_gfpow_port hs 0 e).trans (require_false ..)

end

/-! ### The field procedures, for any tables -/

section
variable {t : Tables} {x y z : GF16} {lx ly : LogVal}

/-- A zero operand makes the product 0, whatever the tables hold (R72). -/
theorem gfMul_of_eq_zero (t : Tables) (h : x = 0#4 ∨ y = 0#4) : gfMul t x y = some 0#4 := if_pos h

/-- The product of non-zero elements is the exponential of the sum of their logarithms (R72). -/
theorem gfMul_of_readLog (hx : x ≠ 0#4) (hy : y ≠ 0#4) (hlx : t.readLog x = some lx) (hly : t.readLog y = some ly)
    (hz : t.readExp ((lx.toNat + ly.toNat) % 15) = some z) : gfMul t x y = some z := by
  rw [gfMul, if_neg (not_or.2 ⟨hx, hy⟩), hlx, hly]
  exact hz

/-- A zero dividend makes the quotient 0, whatever the tables hold (R73). -/
theorem gfDiv_zero (t : Tables) (hy : y ≠ 0#4) : gfDiv t 0#4 y = some 0#4 := by
  rw [gfDiv, if_neg hy, if_pos rfl]

/-- The mathematical difference of two logarithms mod 15 needs no negative number: 15 added first keeps it (R73). -/
theorem logDifference_mod (lx ly : LogVal) :
    (((lx.toNat : Int) - (ly.toNat : Int)) % 15).toNat = (lx.toNat + 15 - ly.toNat) % 15 := by
  have hly := ly.isLt
  omega

/-- The quotient of non-zero elements is the exponential of the difference of their logarithms (R73). -/
theorem gfDiv_of_readLog (hx : x ≠ 0#4) (hy : y ≠ 0#4) (hlx : t.readLog x = some lx) (hly : t.readLog y = some ly)
    (hz : t.readExp ((lx.toNat + 15 - ly.toNat) % 15) = some z) : gfDiv t x y = some z := by
  rw [← logDifference_mod] at hz
  rw [gfDiv, if_neg hy, if_neg hx, hlx, hly]
  exact hz

/-- The power of a non-zero element is the exponential of its logarithm times the exponent (R74). -/
theorem gfPow_of_readLog {e : Nat} (hx : x ≠ 0#4) (hlx : t.readLog x = some lx)
    (hz : t.readExp (lx.toNat * e % 15) = some z) : gfPow t x e = some z := by
  rw [gfPow, if_neg hx, hlx]
  exact hz

end

/-! ### The tables of INIT -/

/-- A ready state of a run holds the tables of INIT (R23). -/
theorem State.Ready.tables_eq {s : State} (h : s.Ready) : s.tables = Tables.built := by
  obtain ⟨⟨-, -, htables, -⟩ | ⟨hnot, -⟩, hs⟩ := h
  · exact htables
  · exact absurd (hs.symm.trans hnot) (by decide)

/-- Every element of `EXP` has a value, and none is 0 (R67). -/
theorem readExp_built_ne_zero : ∀ i : BitVec 4, ∃ x : GF16, x ≠ 0 ∧ Tables.built.readExp i.toNat = some x := by decide

/-- 1 is neutral on the right. -/
theorem fieldProduct_one : ∀ x : GF16, fieldProduct x 1 = x := by decide

/-- 1 is neutral on the left. -/
theorem one_fieldProduct : ∀ x : GF16, fieldProduct 1 x = x := by decide

/-- A non-zero element divided by itself is 1: it is 1 times itself. -/
theorem gfDiv_built_self {x : GF16} (hx : x ≠ 0) : gfDiv Tables.built x x = some 1 := by
  simpa only [one_fieldProduct] using gfDiv_built 1 x hx

/-- The power with exponent 0 of a non-zero element is 1 (R74). -/
theorem gfPow_built_zero : ∀ x : GF16, x ≠ 0 → gfPow Tables.built x 0 = some 1 := by decide

/-! ### The obligations -/

/-- Settles O27: a read of `EXP`, whose elements 0 and 15 INIT sets to 1. -/
theorem gfexpReadsExp : Obligations.GfexpReadsExp := by
  unfold Obligations.GfexpReadsExp
  refine fun s => ⟨fun a b hs => exec_refuses_notReady rfl hs, fun a b hs hwf => exec_refuses_operand (fun _ => hs) hwf,
    fun i x hs hx => gfexp_completes hs hx, fun hready => ?_⟩
  have hread {i : BitVec 4} {x : GF16} (hx : Tables.built.readExp i.toNat = some x) :
      Completes (.gfexp (port i) 0) s (port x) 0 := gfexp_completes hready.2 (hready.tables_eq ▸ hx)
  have hfifteen := hread (i := 15) (x := 1) rfl
  have hzero := hread (i := 0) (x := 1) rfl
  rw [port_fifteen, port_one] at hfifteen
  rw [port_zero, port_one] at hzero
  refine ⟨hfifteen, hzero, fun i => ?_⟩
  obtain ⟨x, hne, hx⟩ := readExp_built_ne_zero i
  exact ⟨x, hne, hread hx⟩

/-- Settles O28: a check for 0, then a read of `LOG`, whose element 1 INIT sets to 0. -/
theorem gflogReadsLog : Obligations.GflogReadsLog := by
  unfold Obligations.GflogReadsLog
  refine fun s => ⟨fun a b hs => exec_refuses_notReady rfl hs, fun a b hs hwf => exec_refuses_operand (fun _ => hs) hwf,
    fun hs => gflog_zero_refuses hs, fun v e hv hs he => gflog_completes hs hv he, fun hready => ?_⟩
  have hlog : s.tables.readLog 1 = some 0 := by
    rw [hready.tables_eq]
    rfl
  have h := gflog_completes hready.2 (by decide) hlog
  rwa [port_zero, port_one] at h

/-- A command of two field elements is ill-formed when an operand is 16 or more (R49). -/
theorem not_wellFormed_of_sixteen_le {i : Instr} (hw : i.operandWidths = (4, 4))
    (h : 16 ≤ i.portA.toNat ∨ 16 ≤ i.portB.toNat) : ¬ i.WellFormed := by
  rw [Instr.WellFormed, hw]
  rintro ⟨ha : _ < 16, hb : _ < 16, -⟩
  omega

/-- Settles O30: both procedures are XOR, and both commands make the operand check alone. -/
theorem gfaddAndGfsubAreXor : Obligations.GfaddAndGfsubAreXor := by
  unfold Obligations.GfaddAndGfsubAreXor
  refine fun s => ⟨fun x y => ⟨exec_gfadd_port x y s, exec_gfsub_port x y s⟩, fun a b h => ⟨?_, ?_⟩⟩
  · exact exec_refuses_operand nofun (not_wellFormed_of_sixteen_le rfl h)
  · exact exec_refuses_operand nofun (not_wellFormed_of_sixteen_le rfl h)

/-- Settles O31: the cases of `gf_mul`, and 1 neutral for the product it computes in a run. -/
theorem gfmulAddsLogarithms : Obligations.GfmulAddsLogarithms := by
  unfold Obligations.GfmulAddsLogarithms
  refine fun s => ⟨fun a b hs => exec_refuses_notReady rfl hs, fun a b hs hwf => exec_refuses_operand (fun _ => hs) hwf,
    fun x y hs h => port_zero ▸ gfmul_completes hs (gfMul_of_eq_zero s.tables h),
    fun x y z lx ly hs hx hy hlx hly hz => gfmul_completes hs (gfMul_of_readLog hx hy hlx hly hz),
    fun hready x => ⟨?_, ?_⟩⟩
  · have h : gfMul s.tables x 1 = some x := by rw [hready.tables_eq, gfMul_built, fieldProduct_one]
    exact port_one ▸ gfmul_completes hready.2 h
  · have h : gfMul s.tables 1 x = some x := by rw [hready.tables_eq, gfMul_built, one_fieldProduct]
    exact port_one ▸ gfmul_completes hready.2 h

/-- Settles O32: the divisor check, and the cases of `gf_div`. -/
theorem gfdivSubtractsLogarithms : Obligations.GfdivSubtractsLogarithms := by
  unfold Obligations.GfdivSubtractsLogarithms
  refine fun s => ⟨fun a b hs => exec_refuses_notReady rfl hs, fun a b hs hwf => exec_refuses_operand (fun _ => hs) hwf,
    fun x hs => gfdiv_zero_refuses hs x, fun y hs hy => port_zero ▸ gfdiv_completes hs hy (gfDiv_zero s.tables hy),
    fun x y z lx ly hs hx hy hlx hly hz => gfdiv_completes hs hy (gfDiv_of_readLog hx hy hlx hly hz),
    fun hready x hx => ?_⟩
  have h : gfDiv s.tables x x = some 1 := by rw [hready.tables_eq, gfDiv_built_self hx]
  exact port_one ▸ gfdiv_completes hready.2 hx h

/-- Settles O33: the base check, and `gf_pow`, whose exponents 0 and 15 agree mod 15. -/
theorem gfpowMultipliesTheLogarithm : Obligations.GfpowMultipliesTheLogarithm := by
  unfold Obligations.GfpowMultipliesTheLogarithm
  refine fun s => ⟨fun a b hs => exec_refuses_notReady rfl hs, fun a b hs hwf => exec_refuses_operand (fun _ => hs) hwf,
    fun e hs => gfpow_zero_refuses hs e,
    fun x z e lx hs hx hlx hz => gfpow_completes hs hx (gfPow_of_readLog hx hlx hz), fun hready x hx => ?_⟩
  have hzero : gfPow s.tables x 0 = some 1 := by rw [hready.tables_eq, gfPow_built_zero x hx]
  have hfifteen : gfPow s.tables x 15 = some 1 := by
    rw [hready.tables_eq, gfPow_built_add_fifteen x 0, gfPow_built_zero x hx]
  have hcompletes {e : BitVec 4} (h : gfPow s.tables x e.toNat = some 1) :
      Completes (.gfpow (port x) (port e)) s 1 0 := port_one ▸ gfpow_completes hready.2 hx h
  exact ⟨port_zero ▸ hcompletes (e := 0) hzero, port_fifteen ▸ hcompletes (e := 15) hfifteen⟩

end Sys2Proof.Machine

/-! Proofs about the polynomial commands (41_poly_algebra.md). A bit vector is read as a polynomial over GF(2), bit `k` as the
coefficient of `x^k`; XOR is then addition and the procedure `clmul` multiplication, and the two procedures that make
quotients and products are judged by ring arithmetic. -/

namespace Sys2Proof.Machine

/-! ### Bits as coefficients -/

/-- A bit as an element of GF(2). -/
def gf2 (b : Bool) : ZMod 2 := if b then 1 else 0

/-- A clear bit is 0. -/
@[simp] theorem gf2_false : gf2 false = 0 := rfl

/-- A set bit is 1. -/
@[simp] theorem gf2_true : gf2 true = 1 := rfl

/-- XOR of bits is addition in GF(2). -/
theorem gf2_xor : ∀ a b : Bool, gf2 (a ^^ b) = gf2 a + gf2 b := by decide

/-- AND of bits is multiplication in GF(2). -/
theorem gf2_and : ∀ a b : Bool, gf2 (a && b) = gf2 a * gf2 b := by decide

/-- GF(2) tells bits apart. -/
theorem gf2_injective : Function.Injective gf2 := by decide

/-- A natural number read in GF(2) is its parity. -/
theorem gf2_decide_odd (n : Nat) : gf2 (decide (n % 2 = 1)) = (n : ZMod 2) := by
  rw [← ZMod.natCast_mod n 2]
  obtain h | h := Nat.mod_two_eq_zero_or_one n <;> rw [h] <;> rfl

/-- The sum over GF(2) of the bits of a predicate is the number of places where it holds. -/
theorem sum_gf2_range (p : Nat → Bool) (n : Nat) :
    ∑ i ∈ Finset.range n, gf2 (p i) = (((List.range n).filter p).length : ZMod 2) := by
  induction n with
  | zero => rfl
  | succ n ih =>
    rw [Finset.sum_range_succ, ih, List.range_succ, List.filter_append, List.length_append, Nat.cast_add]
    cases h : p n <;> simp [h]

/-! ### Bit vectors as polynomials -/

section
variable {w : Nat}

/-- The polynomial over GF(2) whose coefficients are the bits of `v`. -/
noncomputable def toPoly (v : BitVec w) : Polynomial (ZMod 2) :=
  ∑ i ∈ Finset.range w, Polynomial.monomial i (gf2 (v.getLsbD i))

/-- Every coefficient is a bit, those past the width included. -/
@[simp] theorem coeff_toPoly (v : BitVec w) (k : Nat) : (toPoly v).coeff k = gf2 (v.getLsbD k) := by
  simp only [toPoly, Polynomial.finsetSum_coeff, Polynomial.coeff_monomial, Finset.sum_ite_eq', Finset.mem_range]
  split
  · rfl
  · rw [BitVec.getLsbD_of_ge v k (by omega), gf2_false]

/-- The polynomial fixes the bits. -/
theorem toPoly_injective : Function.Injective (toPoly (w := w)) := by
  intro u v h
  refine BitVec.eq_of_getLsbD_eq fun k _ => gf2_injective ?_
  rw [← coeff_toPoly, ← coeff_toPoly, h]

/-- No set bit is the polynomial 0. -/
@[simp] theorem toPoly_zero : toPoly (0#w) = 0 := by
  ext k
  simp

/-- Bit 0 alone is the polynomial 1. -/
@[simp] theorem toPoly_one (hw : 0 < w) : toPoly (1#w) = 1 := by
  ext k
  by_cases hk : k = 0 <;> simp [Polynomial.coeff_one, hw, hk]

/-- XOR is addition. -/
@[simp] theorem toPoly_xor (u v : BitVec w) : toPoly (u ^^^ v) = toPoly u + toPoly v := by
  ext k
  rw [coeff_toPoly, BitVec.getLsbD_xor, gf2_xor, Polynomial.coeff_add, coeff_toPoly, coeff_toPoly]

/-- A change of width that drops no set bit keeps the polynomial. -/
theorem toPoly_setWidth {n : Nat} (v : BitVec w) (h : ∀ k, n ≤ k → v.getLsbD k = false) :
    toPoly (v.setWidth n) = toPoly v := by
  ext k
  rw [coeff_toPoly, coeff_toPoly, BitVec.getLsbD_setWidth]
  by_cases hk : k < n
  · simp [hk]
  · simp [h k (by omega)]

/-- Zero extension keeps the polynomial. -/
theorem toPoly_setWidth_of_le {n : Nat} (v : BitVec w) (h : w ≤ n) : toPoly (v.setWidth n) = toPoly v :=
  toPoly_setWidth v fun k hk => v.getLsbD_of_ge k (h.trans hk)

/-- A left shift that drops no set bit is multiplication by a power of `x`. -/
theorem toPoly_shiftLeft (v : BitVec w) (i : Nat) (h : ∀ k, w ≤ k + i → v.getLsbD k = false) :
    toPoly (v <<< i) = Polynomial.X ^ i * toPoly v := by
  ext k
  rw [coeff_toPoly, BitVec.getLsbD_shiftLeft, Polynomial.coeff_X_pow_mul', coeff_toPoly]
  by_cases hik : i ≤ k
  · by_cases hk : k < w
    · simp [hk, hik, Nat.not_lt.2 hik]
    · simp [hik, h (k - i) (by omega)]
  · simp [hik, Nat.lt_of_not_le hik]

/-- Zero extension with room for a left shift makes the shift multiplication by a power of `x`. -/
theorem toPoly_setWidth_shiftLeft {n i : Nat} (v : BitVec w) (h : w + i ≤ n) :
    toPoly (v.setWidth n <<< i) = Polynomial.X ^ i * toPoly v := by
  rw [toPoly_shiftLeft, toPoly_setWidth_of_le v (by omega)]
  intro k hk
  rw [BitVec.getLsbD_setWidth, v.getLsbD_of_ge k (by omega), Bool.and_false]

end

/-! ### The carry-less product -/

/-- After `n` steps `clmul` holds the product of the low `n` bits of `x` and `y` (R85). -/
theorem toPoly_clmul_steps (x y : BitPoly) {n : Nat} (hn : n ≤ 64) :
    toPoly ((List.range n).foldl (fun r i => if x.getLsbD i then r ^^^ (y.setWidth 128 <<< i) else r) 0#128) =
      (∑ i ∈ Finset.range n, Polynomial.monomial i (gf2 (x.getLsbD i))) * toPoly y := by
  induction n with
  | zero => simp
  | succ n ih =>
    have hshift : toPoly (y.setWidth 128 <<< n) = Polynomial.X ^ n * toPoly y :=
      toPoly_setWidth_shiftLeft y (by omega)
    rw [List.range_succ, List.foldl_concat, Finset.sum_range_succ, add_mul, ← ih (by omega)]
    cases x.getLsbD n
    · simp
    · simp [hshift, Polynomial.X_pow_eq_monomial]

/-- The carry-less product is the product of polynomials (R85). -/
@[simp] theorem toPoly_clmul (x y : BitPoly) : toPoly (clmul x y) = toPoly x * toPoly y :=
  toPoly_clmul_steps x y le_rfl

/-- A bit of the carry-less product is the parity of the number of pairs of set bits that meet there (R85). -/
theorem getLsbD_clmul (x y : BitPoly) (k : Nat) :
    (clmul x y).getLsbD k =
      decide (((List.range (k + 1)).filter fun i => x.getLsbD i && y.getLsbD (k - i)).length % 2 = 1) := by
  apply gf2_injective
  rw [gf2_decide_odd, ← sum_gf2_range, ← coeff_toPoly, toPoly_clmul, Polynomial.coeff_mul,
    Finset.Nat.sum_antidiagonal_eq_sum_range_succ fun i j => (toPoly x).coeff i * (toPoly y).coeff j]
  simp only [coeff_toPoly, gf2_and]

/-- The two halves of a product, side by side, are the product (R5). -/
theorem highHalf_append_lowHalf (p : BitPoly128) : highHalf p ++ lowHalf p = p := by
  rw [highHalf, lowHalf, BitVec.extractLsb'_append_extractLsb'_eq_extractLsb' (by decide), BitVec.extractLsb'_eq_self]

/-- CLMUL makes no check and completes with the two halves of the product (R88). -/
theorem clmul_completes (x y : Port) (s : State) :
    Completes (.clmul x y) s (lowHalf (clmul x y)) (highHalf (clmul x y)) := rfl

/-- Settles O35: the results are the halves of the product, whose bits are coefficients of a product of polynomials. -/
theorem clmulIsThePolynomialProduct : Obligations.ClmulIsThePolynomialProduct := by
  unfold Obligations.ClmulIsThePolynomialProduct
  refine fun s x y => ⟨_, _, clmul_completes x y s, fun k _ => ?_⟩
  rw [highHalf_append_lowHalf, getLsbD_clmul]

/-! ### The highest set bit -/

/-- Bit `n` of `v` is set, and no higher bit is (R86). -/
def IsHighestSetBit {w : Nat} (v : BitVec w) (n : Nat) : Prop :=
  v.getLsbD n = true ∧ ∀ m, n < m → v.getLsbD m = false

/-- `hsb` gives the highest set bit of every operand but 0 (R86). -/
theorem exists_hsb {v : BitPoly} (hv : v ≠ 0) : ∃ n < 64, hsb v = some n ∧ IsHighestSetBit v n := by
  have hne : v.toNat ≠ 0 := BitVec.toNat_ne.1 hv
  refine ⟨v.toNat.log2, (Nat.log2_lt hne).2 v.isLt, if_neg hv, Nat.testBit_log2 hne, fun m hm => ?_⟩
  exact Nat.testBit_lt_two_pow ((Nat.log2_lt hne).1 hm)

/-- PRECIP and PDEG of any operand are ill-formed when the unused port is not 0 (R49). -/
theorem not_wellFormed_of_portB_ne_zero {i : Instr} (hw : i.operandWidths = (64, 0)) (h : i.portB ≠ 0) :
    ¬ i.WellFormed := by
  rw [Instr.WellFormed, hw]
  rintro ⟨-, hb : _ < 1, -⟩
  exact h (BitVec.eq_of_toNat_eq (by simpa using hb))

/-- PDEG with the unused port 0 checks for operand 0, then answers `hsb` (R90). -/
theorem exec_pdeg_zero (v : Port) (s : State) :
    exec (.pdeg v 0) s =
      require (v != 0#64) .zeroArg s (answer s ((hsb v).map fun (n : Nat) => low (BitVec.ofNat 6 n))) := rfl

/-- PDEG completes with the value of `hsb`. -/
theorem pdeg_completes {v : Port} {n : Nat} (hv : v ≠ 0) (hn : n < 64) (h : hsb v = some n) (s : State) :
    Completes (.pdeg v 0) s (BitVec.ofNat 64 n) 0 := by
  have hlow : low (BitVec.ofNat 6 n) = (BitVec.ofNat 64 n, 0#64) := by
    rw [low, BitVec.setWidth_ofNat_of_le_of_lt (by decide) hn]
  rw [Completes, exec_pdeg_zero, require_of_eq_true (ok := v != 0#64) (bne_iff_ne.2 hv), h, Option.map_some, hlow]
  rfl

/-- Settles O38: the operand check, the check for 0, then the highest set bit. -/
theorem pdegIsTheHighestSetBit : Obligations.PdegIsTheHighestSetBit := by
  unfold Obligations.PdegIsTheHighestSetBit
  refine fun s v => ⟨fun b hb => exec_refuses_operand nofun (not_wellFormed_of_portB_ne_zero rfl hb), ?_, fun hv => ?_⟩
  · rintro rfl
    rfl
  · obtain ⟨n, hn, hhsb, hbit⟩ := exists_hsb hv
    exact ⟨n, hn, pdeg_completes hv hn hhsb s, hbit⟩

/-! ### The reciprocal -/

/-- A remainder with bit `i` of `x^64` brought down (R87). -/
def bringDown (rem : BitVec 65) (i : Nat) : BitVec 65 := (rem <<< 1) ||| (if i = 64 then 1#65 else 0#65)

section
variable {d : BitPoly} {dd n : Nat} {rq : BitVec 65 × BitVec 65}

/-- Bringing down a bit shifts the bits of the remainder up. -/
theorem getLsbD_bringDown_succ (rem : BitVec 65) (i k : Nat) :
    (bringDown rem i).getLsbD (k + 1) = (decide (k + 1 < 65) && rem.getLsbD k) := by
  by_cases hi : i = 64 <;> simp [bringDown, hi]

/-- A 1 put into the bit that a shift has cleared is a 1 added. -/
theorem shiftLeft_one_or_one {w : Nat} (v : BitVec w) : (v <<< 1) ||| 1#w = (v <<< 1) ^^^ 1#w := by
  refine BitVec.eq_of_getLsbD_eq fun k _ => ?_
  cases k <;> simp

/-- Shifting by one place multiplies by `x`, when the top bit is clear. -/
theorem toPoly_shiftLeft_one {v : BitVec 65} (h : v.getLsbD 64 = false) :
    toPoly (v <<< 1) = Polynomial.X * toPoly v := by
  rw [toPoly_shiftLeft v 1, pow_one]
  intro k hk
  obtain rfl | hk : k = 64 ∨ 65 ≤ k := by omega
  · exact h
  · exact v.getLsbD_of_ge k hk

/-- Bringing down a bit multiplies by `x` and adds the bit. -/
theorem toPoly_bringDown {rem : BitVec 65} (h : rem.getLsbD 64 = false) (i : Nat) :
    toPoly (bringDown rem i) = Polynomial.X * toPoly rem + if i = 64 then 1 else 0 := by
  by_cases hi : i = 64 <;> simp [bringDown, hi, shiftLeft_one_or_one, toPoly_shiftLeft_one h]

/-- A step that leaves the remainder as it is (R87). -/
theorem recipStep_of_bit_false {i : Nat} (h : (bringDown rq.1 i).getLsbD dd = false) :
    recipStep d dd rq i = (bringDown rq.1 i, rq.2 <<< 1) :=
  if_neg (Bool.not_eq_true _ ▸ h)

/-- A step that subtracts the divisor, and brings a 1 into the quotient (R87). -/
theorem recipStep_of_bit_true {i : Nat} (h : (bringDown rq.1 i).getLsbD dd = true) :
    recipStep d dd rq i = (bringDown rq.1 i ^^^ d.setWidth 65, (rq.2 <<< 1) ^^^ 1#65) :=
  (if_pos h).trans (congrArg _ (shiftLeft_one_or_one rq.2))

/-- A step brings the next bit into what quotient and remainder divide (R87). -/
theorem recipStep_identity (hrem : rq.1.getLsbD 64 = false) (hquo : rq.2.getLsbD 64 = false) (i : Nat) :
    toPoly (recipStep d dd rq i).2 * toPoly d + toPoly (recipStep d dd rq i).1 =
      Polynomial.X * (toPoly rq.2 * toPoly d + toPoly rq.1) + if i = 64 then 1 else 0 := by
  cases hbit : (bringDown rq.1 i).getLsbD dd with
  | false =>
    rw [recipStep_of_bit_false hbit, toPoly_bringDown hrem, toPoly_shiftLeft_one hquo]
    ring
  | true =>
    have hcancel := CharTwo.add_self_eq_zero (toPoly d)
    rw [recipStep_of_bit_true hbit, toPoly_xor, toPoly_xor, toPoly_bringDown hrem, toPoly_shiftLeft_one hquo,
      toPoly_one (by decide), toPoly_setWidth_of_le d (by decide)]
    linear_combination hcancel

/-- A step keeps the remainder below the degree of the divisor (R87). -/
theorem recipStep_rem_bits (hd : IsHighestSetBit d dd) (hdd : dd < 64) (hrem : ∀ k, dd ≤ k → rq.1.getLsbD k = false)
    (i k : Nat) (hk : dd ≤ k) : (recipStep d dd rq i).1.getLsbD k = false := by
  obtain ⟨hset, habove⟩ := hd
  have hdown {k : Nat} (hk : dd < k) : (bringDown rq.1 i).getLsbD k = false := by
    obtain ⟨k, rfl⟩ := Nat.exists_eq_add_one_of_ne_zero (Nat.ne_zero_of_lt hk)
    rw [getLsbD_bringDown_succ, hrem k (by omega), Bool.and_false]
  cases hbit : (bringDown rq.1 i).getLsbD dd with
  | false =>
    rw [recipStep_of_bit_false hbit]
    obtain rfl | hlt := hk.eq_or_lt
    · exact hbit
    · exact hdown hlt
  | true =>
    rw [recipStep_of_bit_true hbit, BitVec.getLsbD_xor, BitVec.getLsbD_setWidth]
    obtain rfl | hlt := hk.eq_or_lt
    · rw [hbit, hset, decide_eq_true (by omega), Bool.and_self, Bool.xor_self]
    · rw [hdown hlt, habove k hlt, Bool.and_false, Bool.xor_self]

/-- A step shifts the bits of the quotient up (R87). -/
theorem recipStep_quo_bits (i k : Nat) :
    (recipStep d dd rq i).2.getLsbD (k + 1) = (decide (k + 1 < 65) && rq.2.getLsbD k) := by
  cases hbit : (bringDown rq.1 i).getLsbD dd with
  | false => simp [recipStep_of_bit_false hbit]
  | true => simp [recipStep_of_bit_true hbit]

/-- What `poly_recip` keeps while bits `n - 1` down to 0 of `x^64` are still to come (R87): quotient and remainder divide the bits
brought down so far, and the bit that will be bit 64 of the quotient is 1 for a divisor of degree 0 alone. -/
structure RecipInv (d : BitPoly) (dd n : Nat) (rq : BitVec 65 × BitVec 65) : Prop where
  identity : toPoly rq.2 * toPoly d + toPoly rq.1 = Polynomial.X ^ (64 - n)
  rem_bits : ∀ k, dd ≤ k → rq.1.getLsbD k = false
  quo_bits : ∀ k, 64 - n < k → rq.2.getLsbD k = false
  quo_top : rq.2.getLsbD (64 - n) = decide (dd = 0)

/-- The first step brings down the leading bit of `x^64` (R87). -/
theorem recipInv_first (hd : IsHighestSetBit d dd) (hdd : dd < 64) :
    RecipInv d dd 64 (recipStep d dd (0#65, 0#65) 64) := by
  have hzero (k : Nat) : (0#65).getLsbD k = false := BitVec.getLsbD_zero
  constructor
  · rw [recipStep_identity (rq := (0#65, 0#65)) (hzero 64) (hzero 64), toPoly_zero]
    simp
  · exact recipStep_rem_bits (rq := (0#65, 0#65)) hd hdd (fun k _ => hzero k) 64
  · rintro (_ | k) hk
    · omega
    · rw [recipStep_quo_bits, hzero, Bool.and_false]
  · by_cases h : dd = 0 <;> simp [recipStep, h]

/-- Every later step keeps the invariant (R87). -/
theorem RecipInv.step (hd : IsHighestSetBit d dd) (hdd : dd < 64) (hn : n < 64) (h : RecipInv d dd (n + 1) rq) :
    RecipInv d dd n (recipStep d dd rq n) := by
  have hlen : 64 - n = 64 - (n + 1) + 1 := by omega
  constructor
  · rw [recipStep_identity (h.rem_bits 64 hdd.le) (h.quo_bits 64 (by omega)), h.identity, if_neg hn.ne, add_zero, hlen,
      pow_succ']
  · exact recipStep_rem_bits hd hdd h.rem_bits n
  · rintro (_ | k) hk
    · omega
    · rw [recipStep_quo_bits, h.quo_bits k (by omega), Bool.and_false]
  · rw [hlen, recipStep_quo_bits, h.quo_top, decide_eq_true (by omega), Bool.true_and]

/-- The steps that are still to come end with the invariant for no bit left (R87). -/
theorem RecipInv.foldl_reverse_range (hd : IsHighestSetBit d dd) (hdd : dd < 64) (hn : n ≤ 64)
    (h : RecipInv d dd n rq) : RecipInv d dd 0 ((List.range n).reverse.foldl (recipStep d dd) rq) := by
  induction n generalizing rq with
  | zero => exact h
  | succ n ih =>
    rw [List.range_succ, List.reverse_concat, List.foldl_cons]
    exact ih (by omega) (h.step hd hdd hn)

/-- `poly_recip` ends with a quotient and a remainder of `x^64` (R87). -/
theorem exists_polyRecipRem (hd : IsHighestSetBit d dd) (hdd : dd < 64) (h : hsb d = some dd) :
    ∃ quo rem, polyRecipRem d = some (quo, rem) ∧ RecipInv d dd 0 (rem, quo) := by
  refine ⟨_, _, by rw [polyRecipRem, h, Option.map_some], ?_⟩
  rw [List.range_succ, List.reverse_concat, List.foldl_cons]
  exact (recipInv_first hd hdd).foldl_reverse_range hd hdd le_rfl

end

/-- A polynomial has degree 0 when it is 1. -/
theorem IsHighestSetBit.eq_zero_iff {w n : Nat} {v : BitVec w} (hw : 0 < w) (h : IsHighestSetBit v n) :
    n = 0 ↔ v = 1#w := by
  obtain ⟨hset, habove⟩ := h
  constructor
  · rintro rfl
    refine BitVec.eq_of_getLsbD_eq fun k _ => ?_
    cases k with
    | zero => simpa [hw] using hset
    | succ k => simpa using habove (k + 1) k.succ_pos
  · rintro rfl
    simpa [hw] using hset

/-- A 65-bit polynomial is its low 64 bits and its top bit. -/
theorem toPoly_eq_low_add_top (v : BitVec 65) :
    toPoly v = toPoly (v.setWidth 64) + if v.getLsbD 64 then Polynomial.X ^ 64 else 0 := by
  ext k
  rw [Polynomial.coeff_add, coeff_toPoly, coeff_toPoly, BitVec.getLsbD_setWidth]
  obtain hk | rfl | hk := lt_trichotomy k 64
  · cases v.getLsbD 64 <;> simp [Polynomial.coeff_X_pow, hk, hk.ne]
  · cases v.getLsbD 64 <;> simp
  · rw [v.getLsbD_of_ge k hk]
    cases v.getLsbD 64 <;> simp [Polynomial.coeff_X_pow, hk.ne']

/-- PRECIP with the unused port 0 checks for divisor 0, then answers `poly_recip` (R89). -/
theorem exec_precip_zero (d : Port) (s : State) :
    exec (.precip d 0) s = require (d != 0#64) .divZero s
      (answer s ((polyRecip d).map fun (q : BitVec 65) => (q.setWidth 64, (q >>> 64).setWidth 64))) := rfl

/-- PRECIP completes with the low 64 bits and the top bit of the quotient (R89). -/
theorem precip_completes {d : Port} {quo rem : BitVec 65} (hd : d ≠ 0) (h : polyRecipRem d = some (quo, rem)) (s : State) :
    Completes (.precip d 0) s (quo.setWidth 64) (port (BitVec.ofBool (quo.getLsbD 64))) := by
  have htop : (quo >>> 64).setWidth 64 = port (BitVec.ofBool (quo.getLsbD 64)) := by
    refine BitVec.eq_of_getLsbD_eq fun k _ => ?_
    cases k with
    | zero => simp [port]
    | succ k => simp [port, quo.getLsbD_of_ge (64 + (k + 1)) (by omega)]
  rw [Completes, exec_precip_zero, require_of_eq_true (ok := d != 0#64) (bne_iff_ne.2 hd), polyRecip, h, ← htop]
  rfl

/-- The end of the division, on the bits that PRECIP returns (R87, R89). -/
theorem RecipInv.clmul_xor_eq {d : BitPoly} {dd : Nat} {quo rem : BitVec 65} (hdd : dd < 64)
    (h : RecipInv d dd 0 (rem, quo)) :
    (clmul (quo.setWidth 64) d).setWidth 129 ^^^ ((if quo.getLsbD 64 then d.setWidth 129 else 0#129) <<< 64) ^^^
      (rem.setWidth 64).setWidth 129 = 1#129 <<< 64 := by
  have hone : toPoly (1#129 <<< 64) = Polynomial.X ^ 64 := by
    rw [show 1#129 = (1#1).setWidth 129 from rfl, toPoly_setWidth_shiftLeft _ (by decide), toPoly_one (by decide), mul_one]
  have hshift : toPoly (d.setWidth 129 <<< 64) = Polynomial.X ^ 64 * toPoly d :=
    toPoly_setWidth_shiftLeft d (by decide)
  have hrem : toPoly ((rem.setWidth 64).setWidth 129) = toPoly rem := by
    rw [toPoly_setWidth_of_le _ (by decide), toPoly_setWidth rem fun k hk => h.rem_bits k (hdd.le.trans hk)]
  have hidentity := h.identity
  rw [toPoly_eq_low_add_top, Nat.sub_zero] at hidentity
  apply toPoly_injective
  rw [toPoly_xor, toPoly_xor, toPoly_setWidth_of_le _ (by decide), toPoly_clmul, hrem, hone, ← hidentity]
  cases quo.getLsbD 64
  · simp
  · simp only [if_true, hshift]
    ring

/-- Settles O37: the operand check, the check for 0, then the invariant of the division with no bit left. -/
theorem precipIsThePolynomialQuotient : Obligations.PrecipIsThePolynomialQuotient := by
  unfold Obligations.PrecipIsThePolynomialQuotient
  refine fun s d => ⟨fun b hb => exec_refuses_operand nofun (not_wellFormed_of_portB_ne_zero rfl hb), ?_, fun hd => ?_⟩
  · rintro rfl
    rfl
  · obtain ⟨dd, hdd, hhsb, hbit⟩ := exists_hsb hd
    obtain ⟨quo, rem, hquo, hinv⟩ := exists_polyRecipRem hbit hdd hhsb
    have hrem : (rem.setWidth 64).toNat < 2 ^ dd := by
      refine Nat.lt_pow_two_of_testBit _ fun k hk => ?_
      rw [BitVec.testBit_toNat, BitVec.getLsbD_setWidth, hinv.rem_bits k hk, Bool.and_false]
    refine ⟨quo.setWidth 64, quo.getLsbD 64, rem.setWidth 64, dd, precip_completes hd hquo s, hbit.1, hbit.2, hrem,
      hinv.clmul_xor_eq hdd, ?_⟩
    rw [hinv.quo_top, decide_eq_true_iff]
    exact hbit.eq_zero_iff (by decide)

end Sys2Proof.Machine

/-! Proofs about the syndrome evaluator (44_syndrome.md): with the tables of INIT its powers, its values and its array are those of
arithmetic modulo `x⁴+x+1`, and packing keeps every element. -/

namespace Sys2Proof.Machine

/-! ### Powers through the tables -/

/-- Every exponent below 15 has an element of which it is the logarithm (R67, R68). -/
theorem exists_readExp_readLog_built :
    ∀ e < 15, ∃ x : GF16, x ≠ 0 ∧ Tables.built.readExp e = some x ∧ Tables.built.readLog x = some (BitVec.ofNat 4 e) := by
  decide

/-- Every non-zero element has a logarithm (R68). -/
theorem exists_readLog_built : ∀ x : GF16, x ≠ 0 → ∃ l, Tables.built.readLog x = some l := by decide

/-- One more in the exponent is one more factor: the logarithms add mod 15 (R72, R74). -/
theorem gfPow_built_succ {x y : GF16} {e : Nat} (hx : x ≠ 0) (h : gfPow Tables.built x e = some y) :
    gfPow Tables.built x (e + 1) = some (fieldProduct y x) := by
  obtain ⟨l, hl⟩ := exists_readLog_built x hx
  have hlt (n : Nat) : n % 15 < 15 := Nat.mod_lt n (by decide)
  obtain ⟨y', hy, hexp, hlog⟩ := exists_readExp_readLog_built _ (hlt (l.toNat * e))
  obtain ⟨z, -, hz, -⟩ := exists_readExp_readLog_built _ (hlt (l.toNat * (e + 1)))
  obtain rfl : y' = y := Option.some.inj ((gfPow_of_readLog hx hl hexp).symm.trans h)
  have hsum : ((BitVec.ofNat 4 (l.toNat * e % 15)).toNat + l.toNat) % 15 = l.toNat * (e + 1) % 15 := by
    rw [BitVec.toNat_ofNat, Nat.mod_eq_of_lt ((hlt _).trans (by decide)), Nat.mod_add_mod, Nat.mul_succ]
  have hprod : gfMul Tables.built y' x = some z := gfMul_of_readLog hy hx hlog hl (hsum ▸ hz)
  rw [gfPow_of_readLog hx hl hz, ← hprod, gfMul_built]

/-- The power through the logarithm is the power by repeated multiplication (R74, R82). -/
theorem gfPow_built {x : GF16} (hx : x ≠ 0) (e : Nat) : gfPow Tables.built x e = some (fieldPower x e) := by
  induction e with
  | zero => exact gfPow_built_zero x hx
  | succ e ih => exact gfPow_built_succ hx ih

/-- The field has no zero divisors (R65). -/
theorem fieldProduct_ne_zero : ∀ x y : GF16, x ≠ 0 → y ≠ 0 → fieldProduct x y ≠ 0 := by decide

/-- A power of a non-zero element is not zero. -/
theorem fieldPower_ne_zero {x : GF16} (hx : x ≠ 0) (e : Nat) : fieldPower x e ≠ 0 := by
  induction e with
  | zero => exact (by decide : (1 : GF16) ≠ 0)
  | succ e ih => exact fieldProduct_ne_zero _ _ ih hx

/-! ### The values of the received word -/

/-- The evaluation through the tables is the value of the word as a polynomial (R110). -/
theorem evalWord_built (r : Codeword) {x : GF16} (hx : x ≠ 0) : evalWord Tables.built r x = some (wordEval r x) := by
  have hstep (s : GF16) (k : Nat) :
      (if r.getLsbD k then (gfPow Tables.built x k).map (gfAdd s) else some s) =
        some (s ^^^ if r.getLsbD k then fieldPower x k else 0#4) := by
    cases r.getLsbD k
    · simp
    · simp [gfPow_built hx, gfAdd]
  simp only [evalWord, hstep]
  exact List.foldlM_pure

/-- The syndrome array: element `j` is the value of the word at `α^(j+1)` (R110). -/
def syndromeValues (r : Codeword) : Vector GF16 6 := Vector.ofFn fun j : Fin 6 => wordEval r (fieldPower 2 (j.val + 1))

/-- `synd` with the tables of INIT has a value for every word, the array of the six values (R110). -/
theorem syndromes_built (r : Codeword) : syndromes Tables.built r = some (syndromeValues r) := by
  have hx (i : Nat) : gfPow Tables.built Config.alpha i = some (fieldPower 2 i) := gfPow_built (by decide) i
  have hy (i : Nat) : evalWord Tables.built r (fieldPower 2 i) = some (wordEval r (fieldPower 2 i)) :=
    evalWord_built r (fieldPower_ne_zero (by decide) i)
  simp only [syndromes, hx, hy, Option.bind_eq_bind, Option.bind_some]
  -- Every step has a value now, and six writes in order fill the array.
  exact List.foldlM_pure

/-! ### Packing -/

/-- The first element goes below the others when these leave room for it. -/
theorem packElements_cons_toNat_of_lt (x : GF16) {xs : List GF16} (h : (packElements xs).toNat < 16 ^ 15) :
    (packElements (x :: xs)).toNat = x.toNat + 16 * (packElements xs).toNat := by
  have hx := x.isLt
  rw [packElements, BitVec.toNat_or, BitVec.toNat_setWidth_of_le (by decide), BitVec.toNat_shiftLeft, Nat.shiftLeft_eq,
    Nat.mod_eq_of_lt (by omega), Nat.or_comm, ← Nat.shiftLeft_eq, ← Nat.shiftLeft_add_eq_or_of_lt hx, Nat.shiftLeft_eq]
  omega

/-- Packed elements take four bits each (R52 to R54). -/
theorem packElements_toNat_lt {xs : List GF16} (h : xs.length ≤ 16) : (packElements xs).toNat < 16 ^ xs.length := by
  induction xs with
  | nil => decide
  | cons x xs ih =>
    have hlen : xs.length ≤ 15 := Nat.le_of_succ_le_succ h
    have hlt := ih (hlen.trans (by decide))
    have hx := x.isLt
    rw [packElements_cons_toNat_of_lt x (hlt.trans_le (Nat.pow_le_pow_right (by decide) hlen)), List.length_cons, Nat.pow_succ]
    omega

/-- Up to 16 elements, packing puts the first one below the others (R52 to R54). -/
theorem packElements_cons_toNat (x : GF16) {xs : List GF16} (h : (x :: xs).length ≤ 16) :
    (packElements (x :: xs)).toNat = x.toNat + 16 * (packElements xs).toNat := by
  have hlen : xs.length ≤ 15 := Nat.le_of_succ_le_succ h
  have hlt := packElements_toNat_lt (hlen.trans (by decide))
  exact packElements_cons_toNat_of_lt x (hlt.trans_le (Nat.pow_le_pow_right (by decide) hlen))

/-- Packing keeps every element (R52 to R54). -/
theorem nibbleNat_packElements {xs : List GF16} (h : xs.length ≤ 16) (j : Nat) (hj : j < xs.length) :
    nibbleNat (packElements xs) j = xs[j].toNat := by
  induction xs generalizing j with
  | nil => exact absurd hj (Nat.not_lt_zero j)
  | cons x xs ih =>
    have hx := x.isLt
    rw [nibbleNat, packElements_cons_toNat x h]
    cases j with
    | zero =>
      rw [List.getElem_cons_zero]
      omega
    | succ j =>
      rw [List.getElem_cons_succ, ← ih (Nat.le_of_succ_le h) j (Nat.lt_of_succ_lt_succ hj), nibbleNat, Nat.pow_succ',
        ← Nat.div_div_eq_div_mul, Nat.add_mul_div_left _ _ (by decide), Nat.div_eq_of_lt hx, Nat.zero_add]

/-- A syndrome array takes 24 bits (R52). -/
theorem packSvec_toNat_lt (v : Vector GF16 6) : (packSvec v).toNat < 2 ^ 24 := by
  have h := packElements_toNat_lt (xs := v.toList) (by simp)
  rwa [Vector.length_toList] at h

/-- Packing a syndrome array keeps every element (R52). -/
theorem nibbleNat_packSvec (v : Vector GF16 6) (j : Nat) (hj : j < 6) : nibbleNat (packSvec v) j = v[j].toNat := by
  rw [packSvec, nibbleNat_packElements (by simp) j (by simpa using hj), Vector.getElem_toList]

/-! ### SYND -/

/-- SYND and DECODE read back a word put in its port (R49, R50). -/
@[simp] theorem wordOperand_port (r : Codeword) : wordOperand (port r) = r := by
  rw [wordOperand, port, BitVec.extractLsb'_setWidth_of_le (by decide), BitVec.extractLsb'_eq_self]

/-- SYND with both checks passed answers `synd`, packed (R111). -/
theorem exec_synd_port {s : State} (hs : s.ready = true) (r : Codeword) :
    exec (.synd (port r) 0) s = answer s ((syndromes s.tables r).map fun v => (packSvec v, 0#64)) := by
  simp [exec, execSynd, hs]

/-- In a run SYND completes with the six values of the word (R110, R111). -/
theorem synd_completes {s : State} (hready : s.Ready) (r : Codeword) :
    Completes (.synd (port r) 0) s (packSvec (syndromeValues r)) 0 := by
  rw [Completes, exec_synd_port hready.2, hready.tables_eq, syndromes_built]
  rfl

/-- Settles O42: the two checks, then the six values, packed four bits each. -/
theorem syndEvaluatesAtPowersOfAlpha : Obligations.SyndEvaluatesAtPowersOfAlpha := by
  unfold Obligations.SyndEvaluatesAtPowersOfAlpha
  refine fun s => ⟨fun a b hs => exec_refuses_notReady rfl hs, fun a b hs hwf => exec_refuses_operand (fun _ => hs) hwf,
    fun hready r => ⟨_, synd_completes hready r, packSvec_toNat_lt _, fun j hj => ?_⟩⟩
  rw [nibbleNat_packSvec _ j hj, syndromeValues, Vector.getElem_ofFn]

end Sys2Proof.Machine

/-! Proofs about the root finder and the corrector (46_root_correct_decode.md sections 1 and 2): packed vectors are read back as they
were packed, the scan is a filter over the exponents 0 to 14, and each offset flips one bit. -/

namespace Sys2Proof.Machine

/-! ### Packed vectors with a length field -/

/-- A number put above a value in a port (R53 to R55). -/
theorem toNat_or_ofNat_shiftLeft {p : Port} {n k : Nat} (hp : p.toNat < 2 ^ n) (hk : 2 ^ n * k < 2 ^ 64) :
    (p ||| (BitVec.ofNat 64 k <<< n)).toNat = p.toNat + 2 ^ n * k := by
  have hk64 : k < 2 ^ 64 := (Nat.le_mul_of_pos_left k (Nat.two_pow_pos n)).trans_lt hk
  rw [BitVec.toNat_or, BitVec.toNat_shiftLeft, BitVec.toNat_ofNat, Nat.mod_eq_of_lt hk64, Nat.shiftLeft_eq,
    Nat.mul_comm k, Nat.mod_eq_of_lt hk, Nat.or_comm, ← Nat.two_pow_add_eq_or_of_lt hp, Nat.add_comm]

/-- Packing keeps every element, and absent elements are 0 (R52 to R54). -/
theorem nibbleNat_packElements_getD {xs : List GF16} (h : xs.length ≤ 16) (i : Nat) :
    nibbleNat (packElements xs) i = (xs.getD i 0).toNat := by
  obtain hi | hi := Nat.lt_or_ge i xs.length
  · rw [nibbleNat_packElements h i hi, List.getD_eq_getElem _ _ hi]
  · have hlt := (packElements_toNat_lt h).trans_le (Nat.pow_le_pow_right (by decide) hi)
    rw [nibbleNat, Nat.div_eq_of_lt hlt, List.getD_eq_default _ _ hi]
    rfl

section
variable {xs : List GF16} {m k i : Nat}

/-- A length field above `m` elements, as a number. -/
theorem packElements_or_toNat (hxs : xs.length ≤ m) (hm : m ≤ 4) (hk : k < 16) :
    (packElements xs ||| (BitVec.ofNat 64 k <<< (4 * m))).toNat = (packElements xs).toNat + 16 ^ m * k := by
  have hlt : (packElements xs).toNat < 16 ^ m :=
    (packElements_toNat_lt (by omega)).trans_le (Nat.pow_le_pow_right (by decide) hxs)
  have hpow : 2 ^ (4 * m) = 16 ^ m := Nat.pow_mul 2 4 m
  have hm16 : 16 ^ m ≤ 16 ^ 4 := Nat.pow_le_pow_right (by decide) hm
  rw [toNat_or_ofNat_shiftLeft (hpow ▸ hlt), hpow]
  rw [hpow]
  exact (Nat.mul_lt_mul_of_le_of_lt hm16 hk (by decide)).trans (by decide)

/-- A length field leaves the elements below it as they are. -/
theorem nibbleNat_packElements_or (hxs : xs.length ≤ m) (hm : m ≤ 4) (hk : k < 16) (hi : i < m) :
    nibbleNat (packElements xs ||| (BitVec.ofNat 64 k <<< (4 * m))) i = (xs.getD i 0).toNat := by
  obtain ⟨d, rfl⟩ := Nat.exists_eq_add_of_lt hi
  have hfield : 16 ^ (i + d + 1) * k = 16 ^ i * (16 * (16 ^ d * k)) := by ring
  rw [← nibbleNat_packElements_getD (by omega), nibbleNat, nibbleNat, packElements_or_toNat hxs hm hk, hfield,
    Nat.add_mul_div_left _ _ (by positivity), Nat.add_mul_mod_self_left]

/-- Elements that a port holds are read back from it. -/
theorem elements_eq {p : Port} (h : ∀ i < xs.length, nibbleNat p i = (xs.getD i 0).toNat) :
    elements p xs.length = xs := by
  refine List.ext_getElem (by simp [elements]) fun i _ hi => ?_
  simp only [elements, List.getElem_map, List.getElem_range]
  rw [← BitVec.toNat_inj, element_toNat, h i hi, List.getD_eq_getElem _ _ hi]

end

/-! ### Error-locators in ports -/

section
variable {l : List GF16}

/-- A packed locator as a number (R53). -/
theorem packLvec_toNat (h : l.length ≤ 4) : (packLvec l).toNat = (packElements l).toNat + 2 ^ 16 * l.length :=
  packElements_or_toNat (m := 4) h le_rfl (by omega)

/-- Packing a locator keeps its coefficients, and absent ones are 0 (R53). -/
theorem nibbleNat_packLvec (h : l.length ≤ 4) {i : Nat} (hi : i < 4) :
    nibbleNat (packLvec l) i = (l.getD i 0).toNat :=
  nibbleNat_packElements_or (m := 4) h le_rfl (by omega) hi

/-- Coefficients take 16 bits (R53). -/
theorem packElements_toNat_lt_of_length_le_four (h : l.length ≤ 4) : (packElements l).toNat < 2 ^ 16 :=
  (packElements_toNat_lt (by omega)).trans_le (Nat.pow_le_pow_right (n := 16) (by decide) h)

/-- The size field of a packed locator (R53). -/
theorem lvecSize_packLvec (h : l.length ≤ 4) : lvecSize (packLvec l) = l.length := by
  have hlt := packElements_toNat_lt_of_length_le_four h
  rw [lvecSize_eq, packLvec_toNat h]
  omega

/-- A packed locator takes 19 bits (R53). -/
theorem fits_packLvec (h : l.length ≤ 4) : fits 19 (packLvec l) = true := by
  have hlt := packElements_toNat_lt_of_length_le_four h
  rw [fits_iff, packLvec_toNat h]
  omega

/-- A packed locator of 1 to 4 coefficients is valid (R53). -/
theorem lvecValid_packLvec (h1 : 1 ≤ l.length) (h4 : l.length ≤ 4) : lvecValid (packLvec l) = true := by
  rw [lvecValid_eq, decide_eq_true_iff, LvecValid, ← lvecSize_eq, lvecSize_packLvec h4]
  refine ⟨h1, h4, fun i hi hle => ?_⟩
  rw [nibbleNat_packLvec h4 hi, List.getD_eq_default _ _ hle]
  rfl

/-- ROOTFIND reads back a packed locator (R53). -/
theorem lvecOperand_packLvec (h : l.length ≤ 4) : lvecOperand (packLvec l) = l := by
  rw [lvecOperand, lvecSize_packLvec h]
  exact elements_eq fun i hi => nibbleNat_packLvec h (by omega)

end

/-! ### Offsets in ports -/

section
variable {o : List LogVal}

/-- Packed offsets as a number (R54). -/
theorem packOvec_toNat (h : o.length ≤ 3) : (packOvec o).toNat = (packElements o).toNat + 2 ^ 12 * o.length :=
  packElements_or_toNat (m := 3) h (by decide) (by omega)

/-- Packing keeps every offset, and absent ones are 0 (R54). -/
theorem nibbleNat_packOvec (h : o.length ≤ 3) {i : Nat} (hi : i < 3) :
    nibbleNat (packOvec o) i = (o.getD i 0).toNat :=
  nibbleNat_packElements_or (m := 3) h (by decide) (by omega) hi

/-- The bits above packed offsets hold their number (R54). -/
theorem packOvec_toNat_div (h : o.length ≤ 3) : (packOvec o).toNat / 2 ^ 12 = o.length := by
  have hlt : (packElements o).toNat < 2 ^ 12 :=
    (packElements_toNat_lt (by omega)).trans_le (Nat.pow_le_pow_right (n := 16) (by decide) h)
  rw [packOvec_toNat h]
  omega

/-- The count field of packed offsets (R54). -/
theorem ovecCount_packOvec (h : o.length ≤ 3) : ovecCount (packOvec o) = o.length := by
  rw [ovecCount_eq, packOvec_toNat_div h]
  omega

/-- Packed offsets take 14 bits (R54). -/
theorem fits_packOvec (h : o.length ≤ 3) : fits 14 (packOvec o) = true := by
  have hdiv := packOvec_toNat_div h
  rw [fits_iff]
  omega

/-- Packed offsets within the word are valid (R54). -/
theorem ovecValid_packOvec (h : o.length ≤ 3) (hle : ∀ p ∈ o, p.toNat ≤ 14) : ovecValid (packOvec o) = true := by
  rw [ovecValid_eq, decide_eq_true_iff, OvecValid, ← ovecCount_eq, ovecCount_packOvec h]
  intro i hi
  rw [nibbleNat_packOvec h hi]
  split
  case isTrue hlt =>
    rw [List.getD_eq_getElem _ _ hlt]
    exact hle _ (List.getElem_mem hlt)
  case isFalse hge =>
    rw [List.getD_eq_default _ _ (Nat.le_of_not_lt hge)]
    rfl

/-- CORRECT reads back packed offsets (R54). -/
theorem ovecOperand_packOvec (h : o.length ≤ 3) : ovecOperand (packOvec o) = o := by
  rw [ovecOperand, ovecCount_packOvec h]
  exact elements_eq fun i hi => nibbleNat_packOvec h (by omega)

end

/-! ### ROOTFIND -/

/-- The logarithm of a power of `α` is its exponent (R68). -/
theorem readLog_built_fieldPower : ∀ j < 15, Tables.built.readLog (fieldPower 2 j) = some (BitVec.ofNat 4 j) := by
  decide

/-- Horner's method through the tables gives the value of the polynomial (R130). -/
theorem lamEval_built (l : List GF16) (x : GF16) : lamEval Tables.built l x = some (fieldEval l x) := by
  have hstep (acc c : GF16) :
      ((gfMul Tables.built acc x).map fun m => gfAdd m c) = some (fieldProduct acc x ^^^ c) := by
    rw [gfMul_built]
    rfl
  simp only [lamEval, hstep]
  exact List.foldlM_pure

/-- The exponents of the powers of `α` that are roots, in the order of the scan (R131). -/
def rootExponents (l : List GF16) : List Nat := (List.range 15).filter fun j => fieldEval l (fieldPower 2 j) == 0

/-- A root's exponent is below 15. -/
theorem lt_of_mem_rootExponents {l : List GF16} {j : Nat} (h : j ∈ rootExponents l) : j < 15 :=
  List.mem_range.1 (List.mem_filter.1 h).1

/-- One step of the scan with the tables of INIT (R131). -/
def scanStep (l : List GF16) (need : Nat) (roots : List GF16) (j : Nat) : List GF16 :=
  if roots.length = need then roots
  else if fieldEval l (fieldPower 2 j) = 0 then roots ++ [fieldPower 2 j] else roots

/-- With the tables of INIT every step of the scan has a value. -/
theorem scanRoots_built_eq_foldl (l : List GF16) (need : Nat) :
    scanRoots Tables.built l need = some ((List.range 15).foldl (scanStep l need) []) := by
  have hpow (j : Nat) : gfPow Tables.built Config.alpha j = some (fieldPower 2 j) := gfPow_built (by decide) j
  simp only [scanRoots, hpow, lamEval_built, Option.bind_eq_bind, Option.bind_some, ← apply_ite some]
  exact List.foldlM_pure

/-- The scan of further exponents adds the roots among them, up to the number it needs (R131). -/
theorem foldl_scanStep (l : List GF16) {need : Nat} (js : List Nat) {roots : List GF16} (h : roots.length ≤ need) :
    js.foldl (scanStep l need) roots =
      roots ++ ((js.filter fun j => fieldEval l (fieldPower 2 j) == 0).take (need - roots.length)).map (fieldPower 2) := by
  induction js generalizing roots with
  | nil => simp
  | cons j js ih =>
    rw [List.foldl_cons, scanStep]
    split
    case isTrue hfull => simp [ih h, hfull]
    case isFalse hfull =>
      by_cases hroot : fieldEval l (fieldPower 2 j) = 0
      · obtain ⟨n, hn⟩ : ∃ n, need - roots.length = n + 1 := Nat.exists_eq_add_one.2 (by omega)
        have hlen : (roots ++ [fieldPower 2 j]).length = roots.length + 1 := List.length_append
        have hn' : need - (roots.length + 1) = n := by omega
        rw [if_pos hroot, ih (by omega), hlen, hn, hn', List.filter_cons_of_pos (by simpa using hroot)]
        simp
      · rw [if_neg hroot, ih h, List.filter_cons_of_neg (by simpa using hroot)]

/-- The scan finds the first `need` roots among the powers of `α` (R131). -/
theorem scanRoots_built (l : List GF16) (need : Nat) :
    scanRoots Tables.built l need = some (((rootExponents l).take need).map (fieldPower 2)) := by
  rw [scanRoots_built_eq_foldl, foldl_scanStep l _ (Nat.zero_le need)]
  rfl

/-- What the root finder delivers in a run (R131, R132). -/
def rootOffsets (l : List GF16) : Offsets :=
  if (rootExponents l).length < l.length - 1 then { positions := [], uncorrectable := true }
  else { positions := ((rootExponents l).take (l.length - 1)).map (BitVec.ofNat 4), uncorrectable := false }

/-- With enough roots the offsets are the exponents of the first ones (R131). -/
theorem rootOffsets_of_enough {l : List GF16} (h : l.length - 1 ≤ (rootExponents l).length) :
    rootOffsets l =
      { positions := ((rootExponents l).take (l.length - 1)).map (BitVec.ofNat 4), uncorrectable := false } :=
  if_neg (Nat.not_lt.2 h)

/-- With too few roots there are no offsets, and the word is uncorrectable (R131). -/
theorem rootOffsets_of_few {l : List GF16} (h : (rootExponents l).length < l.length - 1) :
    rootOffsets l = { positions := [], uncorrectable := true } :=
  if_pos h

/-- The logarithms of powers of `α` have values, the exponents (R68). -/
theorem mapM_readLog_built_fieldPower {js : List Nat} (h : ∀ j ∈ js, j < 15) :
    (js.map (fieldPower 2)).mapM Tables.built.readLog = some (js.map (BitVec.ofNat 4)) := by
  induction js with
  | nil => rfl
  | cons j js ih =>
    obtain ⟨hj, hjs⟩ := List.forall_mem_cons.1 h
    rw [List.map_cons, List.mapM_cons, readLog_built_fieldPower j hj, ih hjs]
    rfl

/-- The root finder has a result for every coefficient list (R131, R132). -/
theorem rootfind_built (l : List GF16) : rootfind Tables.built l = some (rootOffsets l) := by
  have hlogs := mapM_readLog_built_fieldPower (js := (rootExponents l).take (l.length - 1))
    fun j hj => lt_of_mem_rootExponents (List.mem_of_mem_take hj)
  have hfew : ((rootExponents l).take (l.length - 1)).length < l.length - 1 ↔
      (rootExponents l).length < l.length - 1 := by
    rw [List.length_take]
    omega
  simp only [rootfind, scanRoots_built, Option.bind_eq_bind, Option.bind_some, List.length_map, hfew, hlogs,
    Option.map_some, ← apply_ite some]
  rfl

/-- `UNCORR` in its port (R55). -/
theorem uncorrFlag_eq_port (u : Bool) : uncorrFlag u = port (BitVec.ofBool u) := by cases u <;> rfl

/-- ROOTFIND with its checks passed answers the root finder, packed (R133). -/
theorem exec_rootfind_packLvec {s : State} (hs : s.ready = true) {l : List GF16} (h1 : 1 ≤ l.length)
    (h4 : l.length ≤ 4) :
    exec (.rootfind (packLvec l) 0) s =
      answer s ((rootfind s.tables l).map fun o => (packOvec o.positions, uncorrFlag o.uncorrectable)) := by
  simp [exec, execRootfind, hs, fits_packLvec h4, lvecValid_packLvec h1 h4, lvecOperand_packLvec h4]

/-- In a run ROOTFIND completes with what the root finder delivers (R133). -/
theorem rootfind_completes {s : State} (hready : s.Ready) {l : List GF16} (h1 : 1 ≤ l.length) (h4 : l.length ≤ 4) :
    Completes (.rootfind (packLvec l) 0) s (packOvec (rootOffsets l).positions)
      (port (BitVec.ofBool (rootOffsets l).uncorrectable)) := by
  rw [Completes, exec_rootfind_packLvec hready.2 h1 h4, hready.tables_eq, rootfind_built, ← uncorrFlag_eq_port]
  rfl

/-- Settles O48: the checks, then the scan, whose result depends on whether the roots are enough. -/
theorem rootfindScansThePowersOfAlpha : Obligations.RootfindScansThePowersOfAlpha := by
  unfold Obligations.RootfindScansThePowersOfAlpha
  refine fun s => ⟨fun a b hs => exec_refuses_notReady rfl hs, fun a b hs hwf => exec_refuses_operand (fun _ => hs) hwf,
    fun hready l h1 h4 => ?_⟩
  have hdone := rootfind_completes hready h1 h4
  refine ⟨fun henough => ?_, fun hfew => ?_⟩
  · rwa [rootOffsets_of_enough henough] at hdone
  · rwa [rootOffsets_of_few hfew] at hdone

/-! ### CORRECT -/

/-- Flipping one bit of a word (R134). -/
theorem getLsbD_xor_one_shiftLeft (w : Codeword) (p : LogVal) {k : Nat} (hk : k < 15) :
    (w ^^^ (1#15 <<< p.toNat)).getLsbD k = (w.getLsbD k ^^ decide (p = BitVec.ofNat 4 k)) := by
  have hp : p = BitVec.ofNat 4 k ↔ p.toNat = k := by
    rw [← BitVec.toNat_inj, BitVec.toNat_ofNat, Nat.mod_eq_of_lt (by omega)]
  have hbit : (1#15 <<< p.toNat).getLsbD k = (decide (p.toNat < 15) && decide (p.toNat = k)) :=
    BitVec.getLsbD_twoPow ..
  rw [BitVec.getLsbD_xor, hbit]
  by_cases hpk : p.toNat = k <;> simp [hp, hpk, hk]

/-- A bit of the corrected word is flipped once for each time its place stands among the offsets (R134). -/
theorem getLsbD_correctBits (w : Codeword) (o : List LogVal) {k : Nat} (hk : k < 15) :
    (correctBits w o).getLsbD k = (w.getLsbD k ^^ decide (o.count (BitVec.ofNat 4 k) % 2 = 1)) := by
  induction o generalizing w with
  | nil => simp [correctBits]
  | cons p o ih =>
    have hcons : correctBits w (p :: o) = correctBits (w ^^^ (1#15 <<< p.toNat)) o := rfl
    rw [hcons, ih, getLsbD_xor_one_shiftLeft w p hk, Bool.xor_assoc, List.count_cons]
    congr 1
    apply gf2_injective
    rw [gf2_xor, gf2_decide_odd, gf2_decide_odd, Nat.cast_add, add_comm]
    by_cases hp : p = BitVec.ofNat 4 k <;> simp [hp]

/-- CORRECT with its checks passed answers the corrector, READY or not (R135). -/
theorem exec_correct_packOvec (w : Codeword) {o : List LogVal} (h : o.length ≤ 3) (hle : ∀ p ∈ o, p.toNat ≤ 14)
    (s : State) : exec (.correct (port w) (packOvec o)) s = answer s (some (low (correctBits w o))) := by
  simp [exec, execCorrect, fits_packOvec h, ovecValid_packOvec h hle, ovecOperand_packOvec h]

/-- CORRECT completes with the corrected word, READY or not (R135). -/
theorem correct_completes (w : Codeword) {o : List LogVal} (h : o.length ≤ 3) (hle : ∀ p ∈ o, p.toNat ≤ 14) (s : State) :
    Completes (.correct (port w) (packOvec o)) s (port (correctBits w o)) 0 :=
  exec_correct_packOvec w h hle s

/-- Settles O49: the checks, then the flips, counted bit by bit. -/
theorem correctFlipsTheOffsets : Obligations.CorrectFlipsTheOffsets := by
  unfold Obligations.CorrectFlipsTheOffsets
  exact fun s => ⟨fun a b hwf => exec_refuses_operand nofun hwf,
    fun w o h hle => ⟨_, correct_completes w h hle s, fun k hk => getLsbD_correctBits w o hk⟩⟩

end Sys2Proof.Machine

/-! Proofs about the whole decoder (46_root_correct_decode.md section 3). DECODE has a result because each of its stages has one; for the
key-equation solver (45_key_equation.md) that is termination: a pass cancels ED's leading element, so after the swap the split index of
ER drops, and 3 swaps are enough (R129). -/

namespace Sys2Proof.Machine

/-! ### The key-equation solver has a result for every syndrome array -/

/-- Every element is the product of some element and a given non-zero one: the product has a left inverse (R73). -/
theorem exists_gfDiv_built (x : GF16) {y : GF16} (hy : y ≠ 0) :
    ∃ q, gfDiv Tables.built x y = some q ∧ fieldProduct q y = x := by
  have hinj : Function.Injective fun q => fieldProduct q y := fun q r h =>
    Option.some.inj (((gfDiv_built q y hy).symm.trans (congrArg (gfDiv Tables.built · y) h)).trans (gfDiv_built r y hy))
  obtain ⟨q, rfl⟩ := Finite.surjective_of_injective hinj x
  exact ⟨q, gfDiv_built q y hy, rfl⟩

/-- The subtraction takes its indices in order, each with the product modulo `x⁴+x+1` (R119). -/
theorem subtractMultiple_built_cons (q : GF16) (src dst : Vector GF16 8) {i : Nat} (hi : i < 8) (idx : List Nat) :
    subtractMultiple Tables.built q src (i :: idx) dst =
      subtractMultiple Tables.built q src idx (dst.setIfInBounds i (dst[i] ^^^ fieldProduct q src[i])) := by
  have hget (v : Vector GF16 8) : v.toList[i]? = some v[i] := by simp [hi]
  simp only [subtractMultiple, List.foldlM_cons, hget, gfMul_built, Option.bind_eq_bind, Option.bind_some]
  rfl

/-- Away from index 0, the subtraction has a value and leaves the leading element (R119). -/
theorem exists_subtractMultiple_built (q : GF16) (src dst : Vector GF16 8) {a n : Nat} (ha : 0 < a) (hn : n ≤ 8 - a) :
    ∃ v, subtractMultiple Tables.built q src (List.range' a n) dst = some v ∧ v[0] = dst[0] := by
  induction n generalizing a dst with
  | zero => exact ⟨dst, rfl, rfl⟩
  | succ n ih =>
    have ha8 : a < 8 := by omega
    obtain ⟨v, hv, hlead⟩ := ih (dst.setIfInBounds a (dst[a] ^^^ fieldProduct q src[a])) a.succ_pos (by omega)
    rw [List.range'_succ, subtractMultiple_built_cons q src dst ha8]
    exact ⟨v, hv, hlead.trans (Vector.getElem_setIfInBounds_ne (by decide) ha.ne')⟩

/-- Over a dividend side, the subtraction has a value and subtracts the leading elements (R119). -/
theorem exists_subtractMultiple_built_range (q : GF16) (src dst : Vector GF16 8) {n : Nat} (hpos : 0 < n) (hn : n ≤ 8) :
    ∃ v, subtractMultiple Tables.built q src (List.range n) dst = some v ∧ v[0] = dst[0] ^^^ fieldProduct q src[0] := by
  obtain ⟨n, rfl⟩ := Nat.exists_eq_add_one.2 hpos
  obtain ⟨v, hv, hlead⟩ := exists_subtractMultiple_built q src
    (dst.setIfInBounds 0 (dst[0] ^^^ fieldProduct q src[0])) (a := 1) (n := n) (by decide) (by omega)
  rw [List.range_eq_range', List.range'_succ, subtractMultiple_built_cons q src dst (by decide)]
  exact ⟨v, hv, hlead.trans (Vector.getElem_setIfInBounds_self (by decide))⟩

/-- The dividend side of a triple is not empty, and its leading element is not 0: the divisor of a pass (R117, R119). -/
structure Divisor (er : ETriple) : Prop where
  lead : er.data[0] ≠ 0
  pos : 1 ≤ er.split
  le : er.split ≤ 8

/-- One pass cancels the leading element of ED, and leaves that of ER and both split indices (R119). -/
structure Reduced (ed er : ETriple) (p : ETriple × ETriple) : Prop where
  lead : p.1.data[0] = 0
  lead_er : p.2.data[0] = er.data[0]
  split_ed : p.1.split = ed.split
  split_er : p.2.split = er.split

/-- One pass with a divisor has a value: the quotient of the leading elements makes ED's leading element 0, and the updates of ER
stay behind the split index (R119). -/
theorem exists_reduceOnce_built {ed er : ETriple} (her : Divisor er) (hpos : 1 ≤ ed.split) :
    ∃ p, reduceOnce Tables.built ed er = some p ∧ Reduced ed er p := by
  by_cases hzero : ed.data[0] = 0
  · exact ⟨(ed, er), if_pos hzero, hzero, rfl, rfl, rfl⟩
  · obtain ⟨q, hq, hprod⟩ := exists_gfDiv_built ed.data[0] her.lead
    obtain ⟨edData, hed, hlead⟩ := exists_subtractMultiple_built_range q er.data ed.data her.pos her.le
    obtain ⟨erData, her', hleader⟩ := exists_subtractMultiple_built q edData er.data hpos le_rfl
    refine ⟨({ ed with data := edData }, { er with data := erData }), ?_, ?_, hleader, rfl, rfl⟩
    · rw [reduceOnce, if_neg (show ed.data[0] ≠ 0#4 from hzero), hq]
      simp only [hed, her', Option.bind_eq_bind, Option.bind_some]
    · exact hlead.trans (hprod ▸ BitVec.xor_self)

section
variable {t : Tables} {n : Nat} {ed er : ETriple} {p : ETriple × ETriple}

/-- The sub-steps end when the split indices match (R119). -/
theorem reduceN_of_split_eq (hp : reduceOnce t ed er = some p) (h : p.1.split = p.2.split) :
    reduceN t n ed er = some p := by
  rw [reduceN, hp]
  exact if_pos h

/-- While the split indices differ, the sub-steps go on with ED shifted (R119). -/
theorem reduceN_of_split_ne (hp : reduceOnce t ed er = some p) (h : p.1.split ≠ p.2.split) :
    reduceN t (n + 1) ed er = reduceN t n (shl p.1) p.2 := by
  rw [reduceN, hp]
  exact if_neg h

/-- The main loop ends when the remainder is short enough (R120). -/
theorem mainLoop_of_split_le (h : (normalizeER er).split ≤ 3) : mainLoop t n ed er = some (ed, normalizeER er) := by
  rw [mainLoop.eq_def]
  exact if_pos h

/-- While the remainder is too long, the main loop goes on with the triples reduced and swapped (R118 to R120). -/
theorem mainLoop_of_lt_split (h : 3 < (normalizeER er).split) (hp : reduceSteps t ed (normalizeER er) = some p) :
    mainLoop t (n + 1) ed er = mainLoop t n p.2 p.1 := by
  rw [mainLoop, hp]
  exact if_neg (Nat.not_le.2 h)

/-- The sub-steps end with equal split indices and ED's leading element cancelled (R119, R129). -/
theorem exists_reduceN_built (her : Divisor er) (hsplit : ed.split = er.split + n) :
    ∃ p, reduceN Tables.built n ed er = some p ∧ p.1.data[0] = 0 ∧ p.1.split = er.split ∧ p.2.split = er.split := by
  have hpos := her.pos
  obtain ⟨p, hp, hred⟩ := exists_reduceOnce_built (ed := ed) her (by omega)
  have hed := hred.split_ed
  have her' := hred.split_er
  induction n generalizing ed er p with
  | zero => exact ⟨p, reduceN_of_split_eq hp (by omega), hred.lead, by omega, by omega⟩
  | succ n ih =>
    have hdiv : Divisor p.2 := ⟨hred.lead_er ▸ her.lead, her' ▸ her.pos, her' ▸ her.le⟩
    have hshl : (shl p.1).split = p.1.split - 1 := rfl
    obtain ⟨q, hq, hredq⟩ := exists_reduceOnce_built (ed := shl p.1) hdiv (by omega)
    obtain ⟨r, hr, hlead, hsplits⟩ := ih hdiv (by omega) hdiv.pos q hq hredq hredq.split_ed hredq.split_er
    rw [reduceN_of_split_ne hp (by omega), ← her']
    exact ⟨r, hr, hlead, hsplits⟩

/-- Normalizing does not raise the split index, and ends with a leading element other than 0 or with an empty dividend side
(R117). -/
theorem normalizeN_spec (h : er.split ≤ n) :
    (normalizeN n er).split ≤ er.split ∧ ((normalizeN n er).data[0] = 0 → (normalizeN n er).split = 0) := by
  induction n generalizing er with
  | zero => exact ⟨le_rfl, fun _ => Nat.le_zero.1 h⟩
  | succ n ih =>
    have hshl : (shl er).split = er.split - 1 := rfl
    rw [normalizeN]
    split
    case isTrue hshift =>
      obtain ⟨hle, hlead⟩ := ih (er := shl er) (by omega)
      exact ⟨by omega, hlead⟩
    case isFalse hstop => exact ⟨le_rfl, fun hzero => not_not.1 fun hne => hstop ⟨hzero, hne⟩⟩

/-- Normalizing does not raise the split index (R117). -/
theorem normalizeER_split_le (er : ETriple) : (normalizeER er).split ≤ er.split := (normalizeN_spec le_rfl).1

/-- Normalizing lowers the split index when the leading element is 0 (R117). -/
theorem normalizeER_split_lt (hlead : er.data[0] = 0) (hpos : 0 < er.split) : (normalizeER er).split < er.split := by
  obtain ⟨n, hn⟩ := Nat.exists_eq_add_one.2 hpos
  have hshl : (shl er).split = n := by rw [shl, hn, Nat.add_sub_cancel]
  have hle := (normalizeN_spec hshl.le).1
  rw [normalizeER, hn, normalizeN, if_pos ⟨hlead, by omega⟩]
  omega

/-- A dividend side that normalizing does not empty is a divisor (R117). -/
theorem divisor_normalizeER (hpos : 0 < (normalizeER er).split) (h8 : er.split ≤ 8) : Divisor (normalizeER er) where
  lead := fun h => hpos.ne' ((normalizeN_spec le_rfl).2 h)
  pos := hpos
  le := (normalizeER_split_le er).trans h8

/-- What the main loop keeps while it may still swap `n` times: ED's split index is 4 to 7, and ER's is not above it and, once
normalized, at most `n + 3` (R120, R129). -/
structure LoopInv (n : Nat) (ed er : ETriple) : Prop where
  ge : 4 ≤ ed.split
  le : ed.split ≤ 7
  er_le : er.split ≤ ed.split
  normalized_le : (normalizeER er).split ≤ n + 3

/-- The main loop starts with all of its swaps (R116, R129). -/
theorem loopInv_start (v : Vector GF16 6) : LoopInv 3 startED (startER v) :=
  ⟨by decide, by decide, (by decide : 6 ≤ 7), normalizeER_split_le (startER v)⟩

/-- The main loop ends within its swaps, with a split index of ED from 4 to 7 (R120, R129). -/
theorem exists_mainLoop_built (h : LoopInv n ed er) :
    ∃ p, mainLoop Tables.built n ed er = some p ∧ 4 ≤ p.1.split ∧ p.1.split ≤ 7 := by
  induction n generalizing ed er with
  | zero => exact ⟨_, mainLoop_of_split_le h.normalized_le, h.ge, h.le⟩
  | succ n ih =>
    obtain ⟨hge, hle, her, hbound⟩ := h
    obtain hstop | hlt := le_or_gt (normalizeER er).split 3
    · exact ⟨_, mainLoop_of_split_le hstop, hge, hle⟩
    · have hnorm := normalizeER_split_le er
      obtain ⟨p, hp, hlead, hed, her'⟩ := exists_reduceN_built (ed := ed) (n := ed.split - (normalizeER er).split)
        (divisor_normalizeER (er := er) (by omega) (by omega)) (by omega)
      have hdrop := normalizeER_split_lt hlead (by omega)
      rw [mainLoop_of_lt_split hlt hp]
      exact ih ⟨by omega, by omega, by omega, by omega⟩

end

/-- Dividing by a coefficient that is not 0 has a value for every coefficient (R123). -/
theorem exists_scaleLocator_built {l : List GF16} (hne : l ≠ []) (hlead : l.head? ≠ some 0) :
    ∃ m, scaleLocator Tables.built l = some m ∧ m.length = l.length := by
  obtain ⟨c, hc⟩ := Option.ne_none_iff_exists'.1 (List.head?_eq_none_iff.not.2 hne)
  have hc0 : c ≠ 0 := fun h => hlead (h ▸ hc)
  choose q hq _ using fun x => exists_gfDiv_built x hc0
  refine ⟨l.map q, ?_, List.length_map ..⟩
  simp only [scaleLocator, hc, hq, Option.bind_eq_bind, Option.bind_some]
  exact List.mapM_pure

/-- The solver has a locator of 1 to 4 coefficients for every syndrome array, the constant 1 when it reports a failure (R121 to R125,
R128). -/
theorem exists_keysolve_built (v : Vector GF16 6) :
    ∃ l, keysolve Tables.built v = some l ∧ 1 ≤ l.coeffs.length ∧ l.coeffs.length ≤ 4 ∧
      (l.uncorrectable = true → l.coeffs = [1]) := by
  obtain ⟨p, hp, hge, hle⟩ := exists_mainLoop_built (loopInv_start v)
  have hlen : (extractLocator p.1).length = 8 - p.1.split := by simp [extractLocator]
  rw [keysolve, hp]
  dsimp only [Option.bind_eq_bind, Option.bind_some]
  split
  case isTrue hfail => exact ⟨_, rfl, by decide, by decide, fun _ => rfl⟩
  case isFalse hok =>
    have hlead : (extractLocator p.1).head? ≠ some 0 := fun h => hok (by simp [locatorFails, h])
    obtain ⟨m, hm, hmlen⟩ := exists_scaleLocator_built (List.ne_nil_of_length_pos (by omega)) hlead
    exact ⟨_, by rw [hm]; rfl, by dsimp only; omega, by dsimp only; omega, fun h => absurd h Bool.false_ne_true⟩

/-! ### The syndrome vector in its port -/

/-- KEYSOLVE reads back a packed syndrome array (R52). -/
theorem svecOperand_packSvec (v : Vector GF16 6) : svecOperand (packSvec v) = v := by
  refine Vector.ext fun j hj => ?_
  rw [svecOperand, Vector.getElem_ofFn, ← BitVec.toNat_inj, element_toNat, nibbleNat_packSvec v j hj]

/-- KEYSOLVE with its checks passed answers the solver, packed (R127). -/
theorem exec_keysolve_packSvec {s : State} (hs : s.ready = true) (v : Vector GF16 6) :
    exec (.keysolve (packSvec v) 0) s =
      answer s ((keysolve s.tables v).map fun l => (packLvec l.coeffs, uncorrFlag l.uncorrectable)) := by
  simp [exec, execKeysolve, hs, (fits_iff 24 _).2 (packSvec_toNat_lt v), svecOperand_packSvec]

/-- In a run KEYSOLVE completes with the solver's locator (R127). -/
theorem keysolve_completes {s : State} (hready : s.Ready) {v : Vector GF16 6} {l : Locator}
    (h : keysolve Tables.built v = some l) :
    Completes (.keysolve (packSvec v) 0) s (packLvec l.coeffs) (port (BitVec.ofBool l.uncorrectable)) := by
  rw [Completes, exec_keysolve_packSvec hready.2, hready.tables_eq, h, ← uncorrFlag_eq_port]
  rfl

/-! ### DECODE -/

/-- DECODE with its checks passed answers the decoder (R137). -/
theorem exec_decode_port {s : State} (hs : s.ready = true) (r : Codeword) :
    exec (.decode (port r) 0) s = answer s ((decodeReceived s.tables r).map fun d =>
      (d.corrected.setWidth 64, decodeFlags d.uncorrectable d.errorsFound)) := by
  simp [exec, execDecode, hs]

/-- No offset is needed for the constant locator, and none is found (R124, R131). -/
theorem rootOffsets_one : rootOffsets [1] = { positions := [], uncorrectable := false } :=
  rootOffsets_of_enough (Nat.zero_le _)

/-- The offsets of a locator of up to 4 coefficients are at most 3 (R132). -/
theorem length_rootOffsets_le {l : List GF16} (h : l.length ≤ 4) : (rootOffsets l).positions.length ≤ 3 := by
  obtain hfew | henough := Nat.lt_or_ge (rootExponents l).length (l.length - 1)
  · rw [rootOffsets_of_few hfew]
    exact Nat.zero_le 3
  · rw [rootOffsets_of_enough henough, List.length_map, List.length_take]
    omega

/-- Every offset is a place of the word (R132). -/
theorem toNat_le_of_mem_rootOffsets {l : List GF16} {p : LogVal} (h : p ∈ (rootOffsets l).positions) : p.toNat ≤ 14 := by
  obtain hfew | henough := Nat.lt_or_ge (rootExponents l).length (l.length - 1)
  · rw [rootOffsets_of_few hfew] at h
    exact absurd h List.not_mem_nil
  · rw [rootOffsets_of_enough henough] at h
    obtain ⟨j, hj, rfl⟩ := List.mem_map.1 h
    have hlt := lt_of_mem_rootExponents (List.mem_of_mem_take hj)
    rw [BitVec.toNat_ofNat]
    omega

/-- The flags of DECODE as a number (R55). -/
theorem decodeFlags_eq (u : Bool) {n : Nat} (hn : n ≤ 3) : decodeFlags u n = BitVec.ofNat 64 (u.toNat + 16 * n) := by
  have hu : (flagBit u).toNat = u.toNat := by cases u <;> rfl
  have hlt := u.toNat_lt
  apply BitVec.eq_of_toNat_eq
  rw [decodeFlags, toNat_or_ofNat_shiftLeft (by omega) (by omega), hu, BitVec.toNat_ofNat]
  omega

/-- The decoder is its four stages one after the other: a solver failure makes the constant locator, which has no offsets (R136). -/
theorem decodeReceived_built (r : Codeword) {l : Locator} (h : keysolve Tables.built (syndromeValues r) = some l)
    (hfail : l.uncorrectable = true → l.coeffs = [1]) :
    decodeReceived Tables.built r =
      some { corrected := correctBits r (rootOffsets l.coeffs).positions
             errorsFound := (rootOffsets l.coeffs).positions.length
             uncorrectable := l.uncorrectable || (rootOffsets l.coeffs).uncorrectable } := by
  simp only [decodeReceived, syndromes_built, h, rootfind_built, Option.bind_eq_bind, Option.bind_some]
  cases hu : l.uncorrectable with
  | false => rfl
  | true =>
    rw [hfail hu, rootOffsets_one]
    rfl

/-- Settles O50: each stage completes with its procedure's result, which is the next one's operand. -/
theorem decodeIsThePipeline : Obligations.DecodeIsThePipeline := by
  unfold Obligations.DecodeIsThePipeline
  refine fun s => ⟨fun a b hs => exec_refuses_notReady rfl hs, fun a b hs hwf => exec_refuses_operand (fun _ => hs) hwf,
    fun hready r => ?_⟩
  obtain ⟨l, hl, h1, h4, hfail⟩ := exists_keysolve_built (syndromeValues r)
  have hlen := length_rootOffsets_le h4
  refine ⟨_, _, _, _, _, _, synd_completes hready r, keysolve_completes hready hl, rootfind_completes hready h1 h4,
    correct_completes r hlen (fun p hp => toNat_le_of_mem_rootOffsets hp) s, ?_⟩
  rw [Completes, exec_decode_port hready.2, hready.tables_eq, decodeReceived_built r hl hfail, packOvec_toNat_div hlen,
    ← decodeFlags_eq _ hlen]
  rfl

end Sys2Proof.Machine

/-! Proofs about the read-out commands (47_system.md): after their checks RDSTAT, RDGEN, RDRCP and RDMINP answer the items of the
state, and in a run these hold the values that INIT builds. -/

namespace Sys2Proof.Machine

/-! ### RDMINP -/

/-- An index below `NMIN` passes the check of R148. -/
theorem minpolyIndexOk_eq_true {s : State} {k n : BitVec 3} (hn : s.nmin = some n) (hlt : k.toNat < n.toNat) :
    minpolyIndexOk s k = true := by
  simp only [minpolyIndexOk, hn, decide_eq_true_iff, hlt]

/-- RDMINP checks its index, then answers the element of `MINPOLY` (R148). -/
theorem exec_rdminp_port {s : State} (hs : s.ready = true) (k : BitVec 3) :
    exec (.rdminp (port k) 0) s =
      require (minpolyIndexOk s k) .operand s (answer s ((s.readMinpoly k.toNat).map low)) := by
  simp [exec, execRdminp, hs, indexOperand_port]

/-- RDMINP with an index below `NMIN` completes with the element of `MINPOLY` that has a value. -/
theorem rdminp_completes {s : State} {k n : BitVec 3} {p : MinPoly} (hs : s.ready = true) (hn : s.nmin = some n)
    (hlt : k.toNat < n.toNat) (hp : s.readMinpoly k.toNat = some p) : Completes (.rdminp (port k) 0) s (port p) 0 := by
  rw [Completes, exec_rdminp_port hs, require_of_eq_true (minpolyIndexOk_eq_true hn hlt), answer_map_low hp]

/-- A ready state of a run holds the values of INIT (R23, R102). -/
theorem State.Ready.built {s : State} (h : s.Ready) : s.Built := by
  obtain ⟨⟨-, -, hbuilt⟩ | ⟨hnot, -⟩, hs⟩ := h
  · exact hbuilt
  · exact absurd (hs.symm.trans hnot) (by decide)

/-- Settles O26: the READY, operand and index checks, then a read of `MINPOLY`, whose three elements INIT builds. -/
theorem rdminpReadsTheMinimalPolynomials : Obligations.RdminpReadsTheMinimalPolynomials := by
  unfold Obligations.RdminpReadsTheMinimalPolynomials
  refine fun s => ⟨fun a b hs => exec_refuses_notReady rfl hs, fun a b hs hwf => exec_refuses_operand (fun _ => hs) hwf,
    fun k n hs hn hle => rdminp_refuses_operand hs hn hle, fun k n p hs hn hlt hp => rdminp_completes hs hn hlt hp,
    fun hready => ?_⟩
  obtain ⟨-, hminpoly, hnmin, -, -⟩ := hready.built
  have hread {k : BitVec 3} {p : MinPoly} (hlt : k.toNat < 3) (hp : (minpolyValue.toList[k.toNat]?).join = some p) :
      Completes (.rdminp (port k) 0) s (port p) 0 :=
    rdminp_completes hready.2 hnmin hlt (by rw [State.readMinpoly, hminpoly, hp])
  exact ⟨hread (k := 0) (p := 0x13) (by decide) rfl, hread (k := 1) (p := 0x1F) (by decide) rfl,
    hread (k := 2) (p := 0x07) (by decide) rfl, fun k hle => rdminp_refuses_operand hready.2 hnmin hle⟩

/-! ### RDSTAT -/

/-- A command without operands is ill-formed when a port is not 0 (R49). -/
theorem not_wellFormed_of_port_ne_zero {i : Instr} (hw : i.operandWidths = (0, 0)) (h : i.portA ≠ 0 ∨ i.portB ≠ 0) :
    ¬ i.WellFormed := by
  rw [Instr.WellFormed, hw]
  rintro ⟨ha, hb, -⟩
  rw [← fits_iff, fits_zero_iff] at ha hb
  exact h.elim (· ha) (· hb)

/-- The status fields, packed, as a number (R50). -/
theorem statusFields_eq : ∀ (ready cfgerr : Bool) (n : BitVec 3),
    statusFields ready cfgerr n = BitVec.ofNat 64 (ready.toNat + 2 * cfgerr.toNat + 4 * n.toNat) := by decide

/-- RDSTAT completes with READY, CFGERR and the field for `NMIN` (R145). -/
theorem rdstat_completes {s : State} {n : BitVec 3} (h : statusNmin s = some n) :
    Completes (.rdstat 0 0) s (BitVec.ofNat 64 (s.ready.toNat + 2 * s.cfgerr.toNat + 4 * n.toNat)) 0 := by
  have hexec : exec (.rdstat 0 0) s =
      answer s ((statusNmin s).map fun n => (statusFields s.ready s.cfgerr n, 0#64)) := rfl
  rw [Completes, hexec, h, ← statusFields_eq]
  rfl

/-- Settles O24: the operand check, then the fields, that of `NMIN` by the value of READY. -/
theorem rdstatReportsTheStatus : Obligations.RdstatReportsTheStatus := by
  unfold Obligations.RdstatReportsTheStatus
  refine fun s => ⟨fun a b h => exec_refuses_operand nofun (not_wellFormed_of_port_ne_zero rfl h), fun n hs hn => ?_,
    fun hs => ?_⟩
  · have h := rdstat_completes (s := s) (n := n) (by rw [statusNmin, if_pos hs, hn])
    rwa [hs] at h
  · have h := rdstat_completes (s := s) (n := 0) (by simp [statusNmin, hs])
    simpa [hs] using h

/-! ### RDGEN and RDRCP -/

/-- A value as wide as its port is its port. -/
theorem port_eq_self (v : Port) : port v = v := v.setWidth_eq

/-- RDGEN completes with the value of `GEN` (R146). -/
theorem rdgen_completes {s : State} {g : BitPoly} (hs : s.ready = true) (hg : s.gen = some g) :
    Completes (.rdgen 0 0) s g 0 := by
  have hexec : exec (.rdgen 0 0) s = answer s (s.gen.map low) := require_of_eq_true hs ..
  rw [Completes, hexec, answer_map_low hg, port_eq_self]

/-- RDRCP completes with the value of `RECIP` (R147). -/
theorem rdrcp_completes {s : State} {r : BitPoly} (hs : s.ready = true) (hr : s.recip = some r) :
    Completes (.rdrcp 0 0) s r 0 := by
  have hexec : exec (.rdrcp 0 0) s = answer s (s.recip.map low) := require_of_eq_true hs ..
  rw [Completes, hexec, answer_map_low hr, port_eq_self]

/-- The division of `x^64` by the value of `GEN` gives that of `RECIP`, with bit 64 clear (R99, R102). -/
theorem polyRecip_genValue : polyRecip genValue = some (recipValue.setWidth 65) := by decide +kernel

/-- PRECIP of the value of `GEN` completes with the value of `RECIP`, in every state (R147). -/
theorem precip_genValue_completes (s : State) : Completes (.precip genValue 0) s recipValue 0 := by
  rw [Completes, exec_precip_zero, polyRecip_genValue]
  rfl

/-- Settles O25: the READY and operand checks, then a read of `GEN` or `RECIP`, which hold the values of INIT in a run. -/
theorem rdgenAndRdrcpReadTheConstants : Obligations.RdgenAndRdrcpReadTheConstants := by
  unfold Obligations.RdgenAndRdrcpReadTheConstants
  refine fun s => ⟨fun a b hs => ⟨exec_refuses_notReady rfl hs, exec_refuses_notReady rfl hs⟩,
    fun a b hs h => ⟨?_, ?_⟩, fun g r hs hg hr => ⟨rdgen_completes hs hg, rdrcp_completes hs hr⟩, fun hready => ?_⟩
  · exact exec_refuses_operand (fun _ => hs) (not_wellFormed_of_port_ne_zero rfl h)
  · exact exec_refuses_operand (fun _ => hs) (not_wellFormed_of_port_ne_zero rfl h)
  · obtain ⟨-, -, -, hgen, hrecip⟩ := hready.built
    exact ⟨rdgen_completes hready.2 hgen, rdrcp_completes hready.2 hrecip, precip_genValue_completes s⟩

end Sys2Proof.Machine

/-! Proofs about command words (30_encoding.md sections 1 and 2): encoding and decoding are inverse to each other (R45, R47). -/

namespace Sys2Proof

/-- The decoder's table leads from a command's opcode and ports back to the command (R47). -/
theorem commandOf_opcode (i : Instr) : commandOf i.opcode i.portA i.portB = .ok i := by
  cases i <;> rfl

/-- A command found in the decoder's table has the opcode and the ports it was found by (R47). -/
theorem fields_of_commandOf {op : Opcode} {a b : Port} {i : Instr} (h : commandOf op a b = .ok i) :
    i.opcode = op ∧ i.portA = a ∧ i.portB = b := by
  unfold commandOf at h
  split at h
  case h_22 => cases h
  all_goals
    next hop =>
      cases h
      exact ⟨BitVec.eq_of_toNat_eq hop.symm, rfl, rfl⟩

/-- A command word is its three fields side by side (R45). -/
theorem op_append_a_append_b (w : CommandWord) : w.op ++ w.a ++ w.b = w := by
  rw [CommandWord.op, CommandWord.a, CommandWord.b,
    BitVec.extractLsb'_append_extractLsb'_eq_extractLsb' (by decide),
    BitVec.extractLsb'_append_extractLsb'_eq_extractLsb' (by decide), BitVec.extractLsb'_eq_self]

/-- Two words side by side, as a number. -/
theorem toNat_append_eq_add {m n : Nat} (x : BitVec m) (y : BitVec n) :
    (x ++ y).toNat = x.toNat * 2 ^ n + y.toNat := by
  rw [BitVec.toNat_append, ← Nat.shiftLeft_add_eq_or_of_lt y.isLt, Nat.shiftLeft_eq]

/-- Settles O1: the fields of the word are the command's, and lead back to it. -/
theorem decodeOfEncodeGivesTheCommand : Obligations.DecodeOfEncodeGivesTheCommand := by
  unfold Obligations.DecodeOfEncodeGivesTheCommand
  intro i
  rw [decode, encode_op, encode_a, encode_b, commandOf_opcode]

/-- Settles O2: the command has the fields of the word, which are the whole word. -/
theorem encodeOfDecodeGivesTheWord : Obligations.EncodeOfDecodeGivesTheWord := by
  unfold Obligations.EncodeOfDecodeGivesTheWord
  intro w i h
  obtain ⟨hop, ha, hb⟩ := fields_of_commandOf h
  rw [encode, hop, ha, hb, op_append_a_append_b]

/-- Settles O3: each field stands above the ones after it. -/
theorem commandWordHasOpAndOperandFields : Obligations.CommandWordHasOpAndOperandFields := by
  unfold Obligations.CommandWordHasOpAndOperandFields
  intro i
  rw [encode, toNat_append_eq_add, toNat_append_eq_add]
  omega

/-- Settles O4: the decoder run on each of the eight words. -/
theorem printedWordsDecode : Obligations.PrintedWordsDecode :=
  ⟨rfl, rfl, rfl, rfl, rfl, rfl, rfl, rfl⟩

end Sys2Proof

namespace Sys2Proof.Machine

/-! ### Response words -/

/-- A response word holds three fields exactly when its bits 131:128, 127:64 and 63:0 do (R46). -/
theorem responseWord_eq_iff (w : ResponseWord) (e : BitVec 4) (hi lo : Port) :
    w = e ++ hi ++ lo ↔ w.extractLsb' 128 4 = e ∧ w.extractLsb' 64 64 = hi ∧ w.extractLsb' 0 64 = lo := by
  have hw := w.isLt
  have he := e.isLt
  have hhi := hi.isLt
  have hlo := lo.isLt
  simp only [← BitVec.toNat_inj, toNat_append_eq_add, BitVec.extractLsb'_toNat, Nat.shiftRight_eq_div_pow]
  omega

/-- A completed response is carried by the word of its results alone (R46). -/
theorem done_carriedBy_iff (lo hi : Port) (w : ResponseWord) :
    (Response.done lo hi).carriedBy w = true ↔ w = 0#4 ++ hi ++ lo := by
  rw [responseWord_eq_iff, Response.carriedBy, Bool.and_eq_true, Bool.and_eq_true, beq_iff_eq, beq_iff_eq, beq_iff_eq]
  rfl

/-- A refusal is carried by every word whose `err` field is its code (R46, R155). -/
theorem refused_carriedBy_iff (e : ErrCode) (w : ResponseWord) :
    (Response.refused e).carriedBy w = true ↔ w.extractLsb' 128 4 = e.code := by
  rw [Response.carriedBy, Bool.and_true, beq_iff_eq]
  rfl

/-- The `err` field of a response word, as a number (R46). -/
theorem responseWord_err_toNat (w : ResponseWord) : (w.extractLsb' 128 4).toNat = w.toNat / 2 ^ 128 := by
  have hw := w.isLt
  rw [BitVec.extractLsb'_toNat, Nat.shiftRight_eq_div_pow]
  omega

/-- Every error code is one of the numbers 1 to 6 (R154). -/
theorem ErrCode.code_bounds (e : ErrCode) : 1 ≤ e.code.toNat ∧ e.code.toNat ≤ 6 := by
  cases e <;> decide

/-- The error of a code (R154). -/
def errorOfCode (c : BitVec 4) : ErrCode :=
  match c.toNat with
  | 1 => .illegalOp
  | 2 => .notReady
  | 3 => .operand
  | 4 => .divZero
  | 5 => .zeroArg
  | _ => .config

/-- Every error is found again by its code (R154). -/
theorem errorOfCode_code (e : ErrCode) : errorOfCode e.code = e := by
  cases e <;> rfl

/-- Every error has a code of its own (R154). -/
theorem ErrCode.code_injective : Function.Injective ErrCode.code :=
  Function.LeftInverse.injective errorOfCode_code

/-- Settles O21: the fields of the word, compared with those of the response. -/
theorem responseWordCarriesTheResponse : Obligations.ResponseWordCarriesTheResponse := by
  unfold Obligations.ResponseWordCarriesTheResponse
  refine ⟨done_carriedBy_iff, fun e w => ?_, ErrCode.code_bounds, fun e f h => ErrCode.code_injective h⟩
  rw [refused_carriedBy_iff, ← BitVec.toNat_inj, responseWord_err_toNat]

end Sys2Proof.Machine

/-! Proofs about INIT, one step and a sequence of moves (42_generator_init.md, 10_state.md section 6, 20_memory.md section 4): INIT
builds the printed values from any state, a step keeps the invariant, and a sequence does what its moves do. -/

namespace Sys2Proof.Machine

/-! ### INIT -/

/-- The scan with the unit's constants finds the three printed minimal polynomials (R95, R102). -/
theorem genBuild_built :
    (genBuild Config.alpha Tables.built).map (fun c => (c.minpoly, c.nmin)) = some (minpolyValue, 3) := by
  decide +kernel

/-- The product of the three minimal polynomials is the printed generator (R98, R102). -/
theorem genProduct_minpolyValue : genProduct minpolyValue 3 = some genValue := by decide +kernel

/-- The reciprocal of the generator is the printed one (R99, R102). -/
theorem genReciprocal_genValue : genReciprocal genValue = some recipValue := by
  rw [genReciprocal, polyRecip_genValue]
  rfl

/-- With the unit's constants the scan does not fail, and INIT builds the printed values (R100, R102). -/
theorem buildAll_eq_initialised (s : State) : buildAll Config.alpha Config.modulus s = s.initialised := by
  have hscan := genBuild_built
  obtain ⟨hnone, -⟩ | ⟨c, hsome, hbuilt⟩ := buildAll_cases Config.alpha Config.modulus s
  · rw [← gfBuild_eq_built, hnone] at hscan
    cases hscan
  · rw [← gfBuild_eq_built, hsome] at hscan
    obtain ⟨hminpoly, hnmin⟩ := Prod.mk.inj (Option.some.inj hscan)
    rw [hbuilt, gfBuild_eq_built, State.constantsBuilt, hminpoly, hnmin, genProduct_minpolyValue, Option.bind_some,
      genReciprocal_genValue]
    rfl

/-- INIT checks its ports, then builds (R100). -/
theorem exec_init (a b : Port) (s : State) :
    exec (.init a b) s = require (fits 0 a && fits 0 b) .operand s (.next s.initialised) := by
  rw [← buildAll_eq_initialised]
  rfl

/-- INIT can be refused for a port that is not 0, or build the printed values (R100). -/
theorem exec_init_cases (a b : Port) (s : State) :
    exec (.init a b) s = .next (s.refuse .operand) ∨ exec (.init a b) s = .next s.initialised := by
  rw [exec_init]
  exact (require_cases ..).imp And.right And.right

/-- INIT with a port that is not 0 is refused (R49). -/
theorem init_refuses_operand {a b : Port} (h : a ≠ 0 ∨ b ≠ 0) (s : State) : Refuses (.init a b) s .operand :=
  exec_refuses_operand nofun (not_wellFormed_of_port_ne_zero rfl h)

/-- Settles O22: the operand check, then the build. -/
theorem initBuildsTheConstants : Obligations.InitBuildsTheConstants := by
  unfold Obligations.InitBuildsTheConstants
  refine fun s a b => ⟨?_, fun h => init_refuses_operand h s⟩
  rintro ⟨rfl, rfl⟩
  exact exec_init 0 0 s

/-- A command is INIT or another one. -/
theorem eq_init_or_ne (i : Instr) : (∃ a b, i = .init a b) ∨ ∀ a b, i ≠ .init a b := by
  cases i with
  | init a b => exact .inl ⟨a, b, rfl⟩
  | _ => exact .inr fun _ _ => nofun

/-- Everything one command can do: put a response on the response port, or build the values of INIT (R22, R100). -/
theorem exec_cases (i : Instr) (s : State) :
    (∃ r, exec i s = .next (s.respond r)) ∨ exec i s = .next s.initialised := by
  obtain ⟨a, b, rfl⟩ | hi := eq_init_or_ne i
  · exact (exec_init_cases a b s).imp_left fun h => ⟨.refused .operand, h⟩
  · exact .inl (exec_responds i s hi)

/-- Settles O13: either way a response is left, and the move at the ports stays. -/
theorem everyCommandIsAnswered : Obligations.EveryCommandIsAnswered := by
  unfold Obligations.EveryCommandIsAnswered
  intro i s
  obtain ⟨r, h⟩ | h := exec_cases i s
  · exact ⟨_, r, h, rfl, rfl⟩
  · exact ⟨_, _, h, rfl, rfl⟩

/-! ### Everything a move and a step can do -/

/-- Everything one move can do: respond, build the values of INIT, or reset (R22, R36, R170). -/
theorem issue_outcome (m : Input) (s : State) :
    (∃ r, issue m s = .next (s.respond r)) ∨ issue m s = .next s.initialised ∨ issue m s = .next s.afterReset := by
  obtain ⟨-, h⟩ | ⟨w, i, -, -, h⟩ | ⟨w, e, -, -, h⟩ := issue_cases m s
  · exact .inr (.inr h)
  · rw [h]
    exact (exec_cases i s).imp_right .inl
  · exact .inl ⟨.refused .illegalOp, h⟩

/-- The values of INIT meet the invariant (R102). -/
theorem inv_initialised (s : State) : s.initialised.Inv := .inl ⟨rfl, rfl, rfl, rfl, rfl, rfl, rfl⟩

/-- The items after a reset meet the invariant (R24, R170). -/
theorem inv_afterReset (s : State) : s.afterReset.Inv := .inr ⟨rfl, rfl, rfl, rfl, rfl, rfl, rfl⟩

/-- A move keeps the invariant: it leaves the items as they are, or gives them the values of INIT or of reset. -/
theorem issue_keeps_inv {m : Input} {s t : State} (hs : s.Inv) (h : issue m s = .next t) : t.Inv := by
  obtain ⟨r, hr⟩ | hinit | hreset := issue_outcome m s
  · cases hr.symm.trans h
    exact hs
  · cases hinit.symm.trans h
    exact inv_initialised s
  · cases hreset.symm.trans h
    exact inv_afterReset s

/-- Settles O10: a step waits or makes one move, and taking the move at the ports changes no item. -/
theorem stepKeepsInv : Obligations.StepKeepsInv := by
  unfold Obligations.StepKeepsInv
  intro s t hs h
  obtain ⟨-, hwait⟩ | ⟨m, -, hmove⟩ := step_cases s
  · cases hwait.symm.trans h
    exact hs
  · exact issue_keeps_inv (s := s.taken) hs (hmove.symm.trans h)

/-- Settles O9: nothing has a value at reset, and READY is 0. -/
theorem invHoldsAtReset : Obligations.InvHoldsAtReset := inv_afterReset State.reset

/-- A move gives `LOG[0]` no value: neither INIT's build nor a reset does (R14). -/
theorem issue_keeps_log_of_zero {m : Input} {s t : State} (hs : s.tables.readLog 0 = none) (h : issue m s = .next t) :
    t.tables.readLog 0 = none := by
  obtain ⟨r, hr⟩ | hinit | hreset := issue_outcome m s
  · cases hr.symm.trans h
    exact hs
  · cases hinit.symm.trans h
    rfl
  · cases hreset.symm.trans h
    rfl

/-- Settles O11: a step waits or makes one move. -/
theorem stepKeepsLogOfZeroWithoutValue : Obligations.StepKeepsLogOfZeroWithoutValue := by
  unfold Obligations.StepKeepsLogOfZeroWithoutValue
  intro s t hs h
  obtain ⟨-, hwait⟩ | ⟨m, -, hmove⟩ := step_cases s
  · cases hwait.symm.trans h
    exact hs
  · exact issue_keeps_log_of_zero (s := s.taken) hs (hmove.symm.trans h)

/-- A command word that decodes is executed (R36). -/
theorem issue_of_decode_ok {w : CommandWord} {i : Instr} (h : decode w = .ok i) (s : State) :
    issue (.command w) s = exec i s := by
  simp only [issue, h]

/-- A step makes the move at the ports, on the state in which it is taken (R36). -/
theorem step_of_pending {s : State} {m : Input} (h : s.pending = some m) : step s = issue m s.taken := by
  simp only [step, h]

/-- Settles O6: a step makes the move at the ports, which executes the command of a word that decodes. -/
theorem stepRunsTheDecodedCommand : Obligations.StepRunsTheDecodedCommand := by
  unfold Obligations.StepRunsTheDecodedCommand
  refine ⟨fun s w i hs hw => ?_, step_present, fun s hs => ?_⟩
  · have hissue := issue_of_decode_ok hw s.taken
    exact ⟨(step_of_pending hs).trans hissue, hissue⟩
  · simp only [step, hs]

/-- Settles O8: the move at the ports is taken, and every other field is set by the reset. -/
theorem resetMayComeBetweenCommands : Obligations.ResetMayComeBetweenCommands := by
  unfold Obligations.ResetMayComeBetweenCommands
  exact fun s hs => step_of_pending hs

/-! ### Refusals -/

/-- A command does the same in a state and in that state with another response on the response port (R22). -/
theorem exec_respond (j : Instr) (s : State) (r : Response) : exec j (s.respond r) = exec j s := by
  obtain ⟨a, b, rfl⟩ | hj := eq_init_or_ne j
  · rw [exec_init, exec_init]
    rfl
  · obtain ⟨q, hs, hr⟩ := exec_respondAlike hj (sameItems_respond s r)
    exact hr.trans hs.symm

/-- Every command ends with a next state (R153). -/
theorem exists_exec (j : Instr) (s : State) : ∃ u, exec j s = .next u := by
  obtain ⟨r, h⟩ | h := exec_cases j s
  · exact ⟨_, h⟩
  · exact ⟨_, h⟩

/-- A command that leaves a refusal has only put it on the response port (R155). -/
theorem eq_refuse_of_exec {i : Instr} {s t : State} {e : ErrCode} (h : exec i s = .next t)
    (he : t.resp = some (.refused e)) : t = s.refuse e := by
  obtain ⟨r, hr⟩ | hinit := exec_cases i s
  · cases hr.symm.trans h
    cases he
    rfl
  · cases hinit.symm.trans h
    cases he

/-- INIT's end on a failed scan (R101). -/
theorem buildAll_of_genBuild_none {alpha : GF16} {modulus : BitVec 8} (h : genBuild alpha (gfBuild alpha modulus) = none)
    (s : State) : buildAll alpha modulus s = s.configFailed := by
  obtain ⟨-, hfail⟩ | ⟨c, hsome, -⟩ := buildAll_cases alpha modulus s
  · exact hfail
  · cases h.symm.trans hsome

/-- After a failed INIT no item holds a value (R101). -/
theorem empty_configFailed (s : State) : s.configFailed.Empty := ⟨rfl, rfl, rfl, rfl, rfl, rfl⟩

/-- Settles O18: a refusal is only a response, a failed INIT leaves its own end, and a refusal's word is fixed by its code. -/
theorem refusalChangesNoItem : Obligations.RefusalChangesNoItem := by
  unfold Obligations.RefusalChangesNoItem
  refine ⟨fun i s t e h he _ => ?_, fun alpha modulus s hscan => ?_, fun e hi lo => ?_⟩
  · obtain rfl := eq_refuse_of_exec h he
    refine ⟨rfl, fun j => ?_⟩
    obtain ⟨u, hu⟩ := exists_exec j s
    exact ⟨u, (exec_respond j s _).trans hu, hu⟩
  · rw [buildAll_of_genBuild_none hscan]
    exact ⟨rfl, rfl, rfl, empty_configFailed s, rfl, fun j => exists_exec j _⟩
  · rw [refused_carriedBy_iff]
    exact ((responseWord_eq_iff _ e.code hi lo).1 rfl).1

/-- Settles O23: INIT's end on a failed scan, after which READY = 0, and the unit's own constants, whose scan does not fail. -/
theorem configurationErrorAbortsInit : Obligations.ConfigurationErrorAbortsInit := by
  unfold Obligations.ConfigurationErrorAbortsInit
  refine ⟨fun alpha modulus s hscan => ?_, fun s t a b h => ?_⟩
  · rw [buildAll_of_genBuild_none hscan]
    exact ⟨rfl, rfl, rfl, empty_configFailed s, fun i hi => exec_refuses_notReady hi rfl⟩
  · obtain hrefused | hinit := exec_init_cases a b s
    · cases hrefused.symm.trans h
      exact nofun
    · cases hinit.symm.trans h
      exact nofun

/-- Settles O17: each check by the lemma of the check, those before it passed. -/
theorem checksComeInOrder : Obligations.ChecksComeInOrder := by
  unfold Obligations.ChecksComeInOrder
  exact ⟨fun s w hw => issue_of_decode_error (decode_of_mem_reservedOpcodes hw) s,
    fun s i hi hs => exec_refuses_notReady hi hs,
    fun s i hready hwf => exec_refuses_operand hready hwf,
    fun s k n hs hn hle => rdminp_refuses_operand hs hn hle,
    fun s x hs => gfdiv_zero_refuses hs x,
    fun s e hs => gfpow_zero_refuses hs e,
    fun s hs => gflog_zero_refuses hs,
    fun s => ⟨rfl, rfl⟩,
    fun s a b h => init_refuses_operand h s⟩

/-! ### Sequences of moves -/

/-- The ports are not among the items (R12). -/
theorem sameItems_withPorts (s : State) (p : Option Input) (r : Option Response) :
    SameItems s { s with pending := p, resp := r } :=
  ⟨rfl, rfl, rfl, rfl, rfl, rfl, rfl, rfl⟩

/-- A move from two states with the same items leads to two states with the same items, and brings the same response (R22). -/
theorem issue_of_sameItems (m : Input) {s s' : State} (h : SameItems s s') :
    ∃ t t', issue m s = .next t ∧ issue m s' = .next t' ∧ SameItems t t' ∧ m.responses t = m.responses t' := by
  obtain ⟨p, r, rfl⟩ := h.exists_eq_with_ports
  cases m with
  | reset => exact ⟨_, _, rfl, rfl, sameItems_withPorts .., rfl⟩
  | command w =>
    cases hw : decode w with
    | error e =>
      exact ⟨_, _, issue_of_decode_error hw s, issue_of_decode_error hw _, sameItems_withPorts .., rfl⟩
    | ok i =>
      rw [issue_of_decode_ok hw, issue_of_decode_ok hw]
      obtain ⟨a, b, rfl⟩ | hi := eq_init_or_ne i
      · rw [exec_init, exec_init]
        cases fits 0 a && fits 0 b with
        | false => exact ⟨_, _, rfl, rfl, sameItems_withPorts .., rfl⟩
        | true => exact ⟨_, _, rfl, rfl, sameItems_withPorts .., rfl⟩
      · obtain ⟨q, hs, hs'⟩ := exec_respondAlike hi h
        exact ⟨_, _, hs, hs', sameItems_withPorts .., rfl⟩

/-- Settles O54, by induction on the sequence. -/
theorem sequenceOutcomeDependsOnTheItemsAlone : Obligations.SequenceOutcomeDependsOnTheItemsAlone := by
  unfold Obligations.SequenceOutcomeDependsOnTheItemsAlone
  intro moves
  induction moves with
  | nil =>
    intro s s' h
    refine ⟨rfl, fun t t' ht ht' => ?_⟩
    cases ht
    cases ht'
    exact h
  | cons m rest ih =>
    intro s s' h
    obtain ⟨t, t', ht, ht', hitems, hresp⟩ := issue_of_sameItems m h
    obtain ⟨hresps, hstates⟩ := ih t t' hitems
    rw [responsesTo_cons rest ht, responsesTo_cons rest ht', runSequence_cons rest ht, runSequence_cons rest ht', hresp,
      hresps]
    exact ⟨rfl, hstates⟩

/-- A move leads to a next state, leaves the move at the ports alone, and brings a response unless it is a reset (R36, R46). -/
theorem exists_issue (m : Input) (s : State) :
    ∃ t, issue m s = .next t ∧ t.pending = s.pending ∧
      (m.responses t).length = ([m].filter fun m => m != .reset).length := by
  cases m with
  | reset => exact ⟨_, rfl, rfl, rfl⟩
  | command w =>
    cases hw : decode w with
    | error e => exact ⟨_, issue_of_decode_error hw s, rfl, rfl⟩
    | ok i =>
      obtain ⟨r, hr⟩ | hinit := exec_cases i s
      · exact ⟨_, (issue_of_decode_ok hw s).trans hr, rfl, rfl⟩
      · exact ⟨_, (issue_of_decode_ok hw s).trans hinit, rfl, rfl⟩

/-- Settles O55, by induction on the first part. -/
theorem sequencesRunToTheirEndInOrder : Obligations.SequencesRunToTheirEndInOrder := by
  unfold Obligations.SequencesRunToTheirEndInOrder
  intro first second
  induction first with
  | nil => exact fun s => ⟨s, rfl, rfl, rfl, rfl, rfl⟩
  | cons m rest ih =>
    intro s
    obtain ⟨t, ht, hpending, hcount⟩ := exists_issue m s
    obtain ⟨u, hu, hupending, hucount, hurun, huresp⟩ := ih t
    refine ⟨u, ?_, hupending.trans hpending, ?_, ?_, ?_⟩
    · rw [runSequence_cons rest ht, hu]
    · rw [responsesTo_cons rest ht, List.length_append, hcount, hucount, ← List.length_append, ← List.filter_append]
      rfl
    · rw [List.cons_append, runSequence_cons _ ht, hurun]
    · rw [List.cons_append, responsesTo_cons _ ht, responsesTo_cons _ ht, huresp, List.append_assoc]

/-- Settles O56, by induction on the sequence: each move keeps the invariant. -/
theorem sequencesKeepInv : Obligations.SequencesKeepInv := by
  unfold Obligations.SequencesKeepInv
  intro moves
  induction moves with
  | nil =>
    intro s t hs h
    cases h
    exact hs
  | cons m rest ih =>
    intro s t hs h
    obtain ⟨u, hu, -, -⟩ := exists_issue m s
    rw [runSequence_cons rest hu] at h
    exact ih u t (issue_keeps_inv hs hu) h

/-! ### A ready unit -/

/-- Every non-zero element has a logarithm that leads back to it (R23). -/
theorem exists_readLog_readExp_built :
    ∀ v : GF16, v ≠ 0 → ∃ e, Tables.built.readLog v = some e ∧ Tables.built.readExp e.toNat = some v := by decide

/-- The printed generator has degree 10 (R16). -/
theorem hsb_genValue : hsb genValue = some 10 := by decide +kernel

/-- The product of the two printed constants is `x^64` but for bit 4, the remainder (R23). -/
theorem clmul_recipValue_genValue : clmul recipValue genValue ^^^ 0x10#128 = 1#128 <<< 64 := by decide +kernel

/-- A ready state of a run has CFGERR = 0 (R18). -/
theorem State.Ready.cfgerr_eq {s : State} (h : s.Ready) : s.cfgerr = false := by
  obtain ⟨⟨-, hcfgerr, -⟩ | ⟨hnot, -⟩, hs⟩ := h
  · exact hcfgerr
  · exact absurd (hs.symm.trans hnot) (by decide)

/-- Settles O12: the values of INIT, table by table. -/
theorem readyUnitHoldsTheSpecsInvariants : Obligations.ReadyUnitHoldsTheSpecsInvariants := by
  unfold Obligations.ReadyUnitHoldsTheSpecsInvariants
  intro s hready
  obtain ⟨htables, -, hnmin, hgen, hrecip⟩ := hready.built
  rw [htables]
  refine ⟨exists_readLog_readExp_built, fun e he => ?_, rfl, rfl, hnmin, hready.cfgerr_eq, genValue, recipValue, hgen, hrecip,
    hsb_genValue, clmul_recipValue_genValue⟩
  obtain ⟨x, hx, hexp, hlog⟩ := exists_readExp_readLog_built e he
  exact ⟨x, hexp, hx, hlog⟩

/-! ### Script lines -/

/-- Settles O53: the reader run on each of the four lines. -/
theorem scriptLinesRead : Obligations.ScriptLinesRead :=
  ⟨by decide +kernel, by decide +kernel, by decide +kernel, by decide +kernel⟩

end Sys2Proof.Machine

/-! Proofs about the field commands of a run (40_gf_field.md): the printed tables, and arithmetic modulo `x⁴+x+1`. -/

namespace Sys2Proof.Machine

/-- `EXP` holds the printed powers (R67). -/
theorem readExp_built_eq_expOf : ∀ i : BitVec 4, Tables.built.readExp i.toNat = some (expOf i.toNat) := by decide

/-- `LOG` holds the printed logarithms (R68). -/
theorem readLog_built_eq_logOf : ∀ v : GF16, v ≠ 0 → Tables.built.readLog v = some (BitVec.ofNat 4 (logOf v)) := by decide

/-- A printed logarithm in its port (R51). -/
theorem port_logOf : ∀ v : GF16, port (BitVec.ofNat 4 (logOf v)) = BitVec.ofNat 64 (logOf v) := by decide

/-- Settles O29: the two reads, from tables that hold the printed values. -/
theorem gfexpAndGflogReadThePrintedTables : Obligations.GfexpAndGflogReadThePrintedTables := by
  unfold Obligations.GfexpAndGflogReadThePrintedTables
  intro s hready
  refine ⟨fun i => gfexp_completes hready.2 ?_, fun v hv => port_logOf v ▸ gflog_completes hready.2 hv ?_⟩
  · rw [hready.tables_eq, readExp_built_eq_expOf]
  · rw [hready.tables_eq, readLog_built_eq_logOf v hv]

/-- Settles O34: with the tables of INIT the three procedures are product, quotient and power modulo `x⁴+x+1`. -/
theorem fieldCommandsComputeModuloTheModulus : Obligations.FieldCommandsComputeModuloTheModulus := by
  unfold Obligations.FieldCommandsComputeModuloTheModulus
  intro s hready x y
  refine ⟨gfmul_completes hready.2 ?_, fun hy => gfdiv_completes hready.2 hy ?_,
    fun hx e => gfpow_completes hready.2 hx ?_⟩
  · rw [hready.tables_eq, gfMul_built]
  · rw [hready.tables_eq, gfDiv_built x y hy]
  · rw [hready.tables_eq, gfPow_built hx]

end Sys2Proof.Machine

/-! Proofs about division by reciprocal (41_poly_algebra.md section 1) and the encoder that uses it (43_encoder.md), in the ring of
polynomials over GF(2). -/

namespace Sys2Proof.Machine

/-! ### The laws of the product -/

/-- The product distributes over XOR (R85). -/
theorem clmul_xor (x y z : BitPoly) : clmul x (y ^^^ z) = clmul x y ^^^ clmul x z := by
  apply toPoly_injective
  rw [toPoly_xor, toPoly_clmul, toPoly_clmul, toPoly_clmul, toPoly_xor, mul_add]

/-- The product is commutative (R85). -/
theorem clmul_comm (x y : BitPoly) : clmul x y = clmul y x := by
  apply toPoly_injective
  rw [toPoly_clmul, toPoly_clmul, mul_comm]

/-- The product distributes over XOR on the left (R85). -/
theorem xor_clmul (x y z : BitPoly) : clmul (x ^^^ y) z = clmul x z ^^^ clmul y z := by
  rw [clmul_comm, clmul_xor, clmul_comm z x, clmul_comm z y]

/-- 1 is neutral (R85). -/
theorem clmul_one (x : BitPoly) : clmul x 1 = x.setWidth 128 := by
  have hone : toPoly (1 : BitPoly) = 1 := toPoly_one (by decide)
  apply toPoly_injective
  rw [toPoly_clmul, hone, mul_one, toPoly_setWidth_of_le x (by decide)]

/-- The polynomial `x` (R85). -/
theorem toPoly_two : toPoly (2 : BitPoly) = Polynomial.X := by
  have h := toPoly_setWidth_shiftLeft (n := 64) (i := 1) 1#1 (by decide)
  rwa [toPoly_one (by decide), mul_one, pow_one] at h

/-- Multiplication by `x` is a shift by one place (R85). -/
theorem clmul_two (x : BitPoly) : clmul x 2 = x.setWidth 128 <<< 1 := by
  apply toPoly_injective
  rw [toPoly_clmul, toPoly_two, toPoly_setWidth_shiftLeft x (by decide), pow_one, mul_comm]

/-- The product with 0 is 0 (R85). -/
theorem clmul_zero (x : BitPoly) : clmul x 0 = 0 := by
  have hzero : toPoly (0 : BitPoly) = 0 := toPoly_zero
  apply toPoly_injective
  rw [toPoly_clmul, hzero, mul_zero]
  exact toPoly_zero.symm

/-- No two bits of 64-bit operands meet at place 127 (R85). -/
theorem getLsbD_clmul_last (x y : BitPoly) : (clmul x y).getLsbD 127 = false := by
  have hnone : (List.range (127 + 1)).filter (fun i => x.getLsbD i && y.getLsbD (127 - i)) = [] := by
    refine List.filter_eq_nil_iff.2 fun i _ => ?_
    obtain hi | hi := Nat.lt_or_ge i 64
    · rw [y.getLsbD_of_ge (127 - i) (by omega), Bool.and_false]
      exact Bool.false_ne_true
    · rw [x.getLsbD_of_ge i hi, Bool.false_and]
      exact Bool.false_ne_true
  rw [getLsbD_clmul, hnone]
  rfl

/-- Settles O36: the laws of the ring of polynomials, and the bound on the degree. -/
theorem clmulLaws : Obligations.ClmulLaws := by
  unfold Obligations.ClmulLaws
  exact fun x y z => ⟨clmul_comm x y, clmul_xor x y z, clmul_one x, clmul_two x, clmul_zero x, getLsbD_clmul_last x y⟩

/-! ### Division by reciprocal -/

/-- The bits of a word from `n` up are 0 exactly when its polynomial has a degree below `n`. -/
theorem degree_toPoly_lt_iff {w : Nat} (v : BitVec w) (n : Nat) :
    (toPoly v).degree < n ↔ ∀ k, n ≤ k → v.getLsbD k = false := by
  rw [Polynomial.degree_lt_iff_coeff_zero]
  refine forall₂_congr fun k _ => ?_
  rw [coeff_toPoly]
  exact gf2_injective.eq_iff (b := false)

/-- The polynomial of a word has a degree below the width. -/
theorem degree_toPoly_lt {w : Nat} (v : BitVec w) : (toPoly v).degree < w :=
  (degree_toPoly_lt_iff v w).2 fun k hk => v.getLsbD_of_ge k hk

/-- The degree of a word is the place of its highest set bit (R86). -/
theorem IsHighestSetBit.degree_toPoly {w n : Nat} {v : BitVec w} (h : IsHighestSetBit v n) : (toPoly v).degree = n := by
  refine le_antisymm ((Polynomial.degree_le_iff_coeff_zero _ _).2 fun k hk => ?_) (Polynomial.le_degree_of_ne_zero ?_)
  · rw [coeff_toPoly, h.2 k (by exact_mod_cast hk), gf2_false]
  · rw [coeff_toPoly, h.1, gf2_true]
    exact one_ne_zero

/-- A product is its low half and, 64 places up, its high half (R5). -/
theorem toPoly_eq_halves (v : BitPoly128) :
    toPoly v = toPoly (lowHalf v) + Polynomial.X ^ 64 * toPoly (highHalf v) := by
  ext k
  rw [Polynomial.coeff_add, Polynomial.coeff_X_pow_mul', coeff_toPoly, coeff_toPoly, coeff_toPoly, lowHalf, highHalf,
    BitVec.getLsbD_extractLsb', BitVec.getLsbD_extractLsb', Nat.zero_add]
  obtain hk | hk := Nat.lt_or_ge k 64
  · simp [hk, Nat.not_le.2 hk]
  · rw [if_pos hk, Nat.add_sub_cancel' hk]
    obtain hk' | hk' := Nat.lt_or_ge k 128
    · simp [Nat.not_lt.2 hk, show k - 64 < 64 by omega]
    · simp [Nat.not_lt.2 hk, v.getLsbD_of_ge k hk']

/-- With `q` the high half of `p` times the reciprocal of `d`, `p` less `q` times `d` has a lower degree than `d` (R91). -/
theorem degree_division_lt {p d r : BitPoly} {rem : Polynomial (ZMod 2)} {n : Nat} (hd : (toPoly d).degree = n)
    (hrem : rem.degree < n) (h : toPoly r * toPoly d + rem = Polynomial.X ^ 64) :
    (toPoly p + toPoly (highHalf (clmul p r)) * toPoly d).degree < n := by
  set q := highHalf (clmul p r)
  set lo := lowHalf (clmul p r)
  have hprod : toPoly p * toPoly r = toPoly lo + Polynomial.X ^ 64 * toPoly q := by
    rw [← toPoly_clmul, toPoly_eq_halves]
  have hcancel := CharTwo.add_self_eq_zero (Polynomial.X ^ 64 * toPoly q * toPoly d)
  have hshifted : Polynomial.X ^ 64 * (toPoly p + toPoly q * toPoly d) = toPoly lo * toPoly d + toPoly p * rem := by
    linear_combination (-toPoly p) * h + toPoly d * hprod + hcancel
  have hlow (v : BitPoly) {f : Polynomial (ZMod 2)} {k : Nat} (hf : f.degree ≤ n) (hk : n + 64 ≤ k) :
      (toPoly v * f).coeff k = 0 := by
    have hbound : (toPoly v * f).degree < ((64 + n : Nat) : WithBot Nat) := by
      rw [Nat.cast_add]
      calc (toPoly v * f).degree ≤ (toPoly v).degree + f.degree := Polynomial.degree_mul_le ..
        _ ≤ (toPoly v).degree + n := by gcongr
        _ < (64 : Nat) + n := WithBot.add_lt_add_right WithBot.coe_ne_bot (degree_toPoly_lt v)
    exact Polynomial.coeff_eq_zero_of_degree_lt (hbound.trans_le (Nat.cast_le.2 (by omega)))
  refine (Polynomial.degree_lt_iff_coeff_zero _ _).2 fun k hk => ?_
  rw [← Polynomial.coeff_X_pow_mul _ 64 k, hshifted, Polynomial.coeff_add, hlow lo hd.le (by omega),
    hlow p hrem.le (by omega), add_zero]

/-- The highest set bit of a divisor of degree at least 1 is not bit 0. -/
theorem IsHighestSetBit.ne_zero {d : BitPoly} {n : Nat} (h : IsHighestSetBit d n) (hd : 2 ≤ d.toNat) : n ≠ 0 := by
  intro hn
  have hone := congrArg BitVec.toNat ((h.eq_zero_iff (by decide)).1 hn)
  rw [BitVec.toNat_ofNat] at hone
  omega

/-- For a divisor of degree at least 1, PRECIP completes with a quotient of `x^64` that fits 64 bits (R87, R89). -/
theorem exists_reciprocal (s : State) {d : Port} {n : Nat} (hd : d ≠ 0) (hn : n < 64) (hhsb : hsb d = some n)
    (hbit : IsHighestSetBit d n) (hpos : n ≠ 0) :
    ∃ (r : Port) (rem : Polynomial (ZMod 2)), Completes (.precip d 0) s r 0 ∧ rem.degree < n ∧
      toPoly r * toPoly d + rem = Polynomial.X ^ 64 := by
  obtain ⟨quo, rem, hquo, hinv⟩ := exists_polyRecipRem hbit hn hhsb
  have htop : quo.getLsbD 64 = false := hinv.quo_top.trans (decide_eq_false hpos)
  have hdone := precip_completes hd hquo s
  have hidentity := hinv.identity
  dsimp only at hidentity
  have hzero : port (BitVec.ofBool false) = 0 := rfl
  rw [htop, hzero] at hdone
  rw [toPoly_eq_low_add_top, htop, if_neg Bool.false_ne_true, add_zero, Nat.sub_zero] at hidentity
  have hrem : (toPoly rem).degree < n := (degree_toPoly_lt_iff rem n).2 fun k hk => hinv.rem_bits k hk
  exact ⟨quo.setWidth 64, toPoly rem, hdone, hrem, hidentity⟩

/-- Settles O39: the quotient times the divisor differs from the dividend by less than the divisor's degree, so it fits 64 bits. -/
theorem divisionByReciprocalIsExact : Obligations.DivisionByReciprocalIsExact := by
  unfold Obligations.DivisionByReciprocalIsExact
  intro s p d hd
  have hne : d ≠ 0 := by
    rintro rfl
    exact absurd hd (by decide)
  obtain ⟨n, hn, hhsb, hbit⟩ := exists_hsb hne
  obtain ⟨r, rem, hprecip, hrem, hidentity⟩ := exists_reciprocal s hne hn hhsb hbit (hbit.ne_zero hd)
  set q := highHalf (clmul p r)
  have hdiff : ∀ k, n ≤ k → (p.setWidth 128 ^^^ clmul q d).getLsbD k = false := by
    rw [← degree_toPoly_lt_iff, toPoly_xor, toPoly_setWidth_of_le p (by decide), toPoly_clmul]
    exact degree_division_lt hbit.degree_toPoly hrem hidentity
  have hhigh : highHalf (clmul q d) = 0#64 := by
    refine BitVec.eq_of_getLsbD_eq fun k hk => ?_
    have h := hdiff (64 + k) (by omega)
    rw [BitVec.getLsbD_xor, BitVec.getLsbD_setWidth, p.getLsbD_of_ge (64 + k) (by omega), Bool.and_false,
      Bool.false_xor] at h
    rw [highHalf, BitVec.getLsbD_extractLsb', h, Bool.and_false, BitVec.getLsbD_zero]
  have hprod := clmul_completes q d s
  rw [hhigh] at hprod
  refine ⟨r, q, _, lowHalf (clmul q d), n, hprecip, clmul_completes p r s, hprod, hbit.1, hbit.2, ?_⟩
  refine Nat.lt_pow_two_of_testBit _ fun k hk => ?_
  rw [BitVec.testBit_toNat, BitVec.getLsbD_xor, lowHalf, BitVec.getLsbD_extractLsb', Nat.zero_add]
  obtain hk' | hk' := Nat.lt_or_ge k 64
  · have h := hdiff k hk
    rw [BitVec.getLsbD_xor, BitVec.getLsbD_setWidth] at h
    rw [← h, Bool.xor_comm]
    simp [hk', hk'.trans (by decide : 64 < 128)]
  · simp [p.getLsbD_of_ge k hk', Nat.not_lt.2 hk']

/-! ### The encoder -/

/-- ENCODE reads back a message put in its port (R49, R50). -/
@[simp] theorem msgOperand_port (m : Msg) : msgOperand (port m) = m := by
  rw [msgOperand, port, BitVec.extractLsb'_setWidth_of_le (by decide), BitVec.extractLsb'_eq_self]

/-- ENCODE with its checks passed answers the encoder (R106). -/
theorem exec_encode_port {s : State} (hs : s.ready = true) (m : Msg) :
    exec (.encode (port m) 0) s = answer s ((encodeMsg s m).map low) := by
  simp [exec, execEncode, hs]

/-- In a run the encoder has the codeword of the message (R105). -/
theorem encodeMsg_eq_codewordOf {s : State} (hready : s.Ready) (m : Msg) : encodeMsg s m = some (codewordOf m) := by
  obtain ⟨-, -, -, hgen, hrecip⟩ := hready.built
  rw [encodeMsg, hgen, hrecip]
  rfl

/-- In a run ENCODE completes with the codeword of the message (R105, R106). -/
theorem encode_completes {s : State} (hready : s.Ready) (m : Msg) :
    Completes (.encode (port m) 0) s (port (codewordOf m)) 0 := by
  rw [Completes, exec_encode_port hready.2, answer_map_low (encodeMsg_eq_codewordOf hready m)]

/-- The quotient of the shifted message by the generator (R105). -/
def messageQuotient (m : Msg) : BitPoly := highHalf (clmul (m.setWidth 64 <<< Config.parityBits) recipValue)

/-- The codeword of each of the 32 messages is the product of its quotient and the generator (R105). -/
theorem clmul_messageQuotient_genValue :
    ∀ m : Msg, clmul (messageQuotient m) genValue = (codewordOf m).setWidth 128 := by decide +kernel

/-- The codeword of each of the 32 messages has the message in bits [14:10] (R105). -/
theorem codewordOf_toNat_div : ∀ m : Msg, (codewordOf m).toNat / 2 ^ 10 = m.toNat := by decide +kernel

/-- Settles O40: the checks, then the codeword, a multiple of the generator with the message on top. -/
theorem encodeIsSystematic : Obligations.EncodeIsSystematic := by
  unfold Obligations.EncodeIsSystematic
  exact fun s => ⟨fun a b hs => exec_refuses_notReady rfl hs, fun a b hs hwf => exec_refuses_operand (fun _ => hs) hwf,
    fun hready m => ⟨codewordOf m, messageQuotient m, encode_completes hready m, codewordOf_toNat_div m,
      clmul_messageQuotient_genValue m⟩⟩

end Sys2Proof.Machine

/-! Proofs about the syndromes and the code (43_encoder.md section 4, 44_syndrome.md section 3). The elements of GF(16) are read in
an algebraic closure of GF(2), where products, powers and values of words are those of the field. -/

namespace Sys2Proof.Machine

/-! ### GF(16) inside a field -/

/-- A field that holds a root of `x⁴+x+1`. -/
abbrev Closure : Type := AlgebraicClosure (ZMod 2)

/-- The modulus has a root in the closure (R65). -/
theorem exists_root_modulus : ∃ a : Closure, a ^ 4 = a + 1 := by
  have hdegree : (Polynomial.X ^ 4 + Polynomial.X + 1 : Polynomial Closure).degree = 4 := by compute_degree!
  obtain ⟨a, ha⟩ := IsAlgClosed.exists_root _ (hdegree.trans_ne (by decide))
  refine ⟨a, ?_⟩
  have hsum : a ^ 4 + a + 1 = 0 := by simpa using ha
  linear_combination hsum - CharTwo.add_self_eq_zero (a + 1)

/-- A root of the modulus, the element that `α` stands for (R4, R65). -/
noncomputable def alphaRoot : Closure := exists_root_modulus.choose

/-- The equation of the field (R65). -/
theorem alphaRoot_pow_four : alphaRoot ^ 4 = alphaRoot + 1 := exists_root_modulus.choose_spec

/-- The residue of polynomials modulo `x⁴+x+1` that an element stands for (R65). -/
noncomputable def toField (v : GF16) : Closure := Polynomial.aeval alphaRoot (toPoly v)

/-- The element 0. -/
@[simp] theorem toField_zero : toField 0#4 = 0 := by rw [toField, toPoly_zero, map_zero]

/-- The element 1. -/
@[simp] theorem toField_one : toField 1#4 = 1 := by rw [toField, toPoly_one (by decide), map_one]

/-- XOR is addition (R70). -/
@[simp] theorem toField_xor (u v : GF16) : toField (u ^^^ v) = toField u + toField v := by
  rw [toField, toPoly_xor, map_add, toField, toField]

/-- Multiplication by `x` before reduction is the reduced product and the modulus when `x⁴` appears (R65). -/
theorem shiftLeft_eq_timesX_xor_modulus :
    ∀ v : GF16, v.setWidth 5 <<< 1 = (timesX v).setWidth 5 ^^^ (if v.getLsbD 3 then 0x13#5 else 0#5) := by decide

/-- The modulus is 0 at its root (R65). -/
theorem aeval_modulus : Polynomial.aeval alphaRoot (toPoly 0x13#5) = 0 := by
  have hbits : 0x13#5 = 1#5 ^^^ ((1#1).setWidth 5 <<< 1) ^^^ ((1#1).setWidth 5 <<< 4) := rfl
  rw [hbits, toPoly_xor, toPoly_xor, toPoly_setWidth_shiftLeft _ (by decide), toPoly_setWidth_shiftLeft _ (by decide),
    toPoly_one (by decide), toPoly_one (by decide)]
  simp only [map_add, map_mul, map_one, map_pow, Polynomial.aeval_X]
  linear_combination alphaRoot_pow_four + CharTwo.add_self_eq_zero (alphaRoot + 1)

/-- Multiplication by `x` is multiplication by the root (R65). -/
@[simp] theorem toField_timesX (v : GF16) : toField (timesX v) = alphaRoot * toField v := by
  have hcarry : Polynomial.aeval alphaRoot (toPoly (if v.getLsbD 3 then 0x13#5 else 0#5)) = 0 := by
    cases v.getLsbD 3
    · simp
    · exact aeval_modulus
  have h := congrArg (Polynomial.aeval alphaRoot) (congrArg toPoly (shiftLeft_eq_timesX_xor_modulus v))
  rw [toPoly_setWidth_shiftLeft v (by decide), toPoly_xor, toPoly_setWidth_of_le _ (by decide), map_add, hcarry, add_zero,
    map_mul, pow_one, Polynomial.aeval_X] at h
  exact h.symm

/-- A bit as a coefficient, evaluated. -/
theorem aeval_monomial_gf2 (a : Closure) (b : Bool) (j : Nat) :
    Polynomial.aeval a (Polynomial.monomial j (gf2 b)) = if b then a ^ j else 0 := by
  cases b
  · simp
  · simp [Polynomial.aeval_monomial]

/-- An element is the sum of its bits times the powers of the root (R65). -/
theorem toField_eq_sum (v : GF16) :
    toField v = ∑ j ∈ Finset.range 4, if v.getLsbD j then alphaRoot ^ j else 0 := by
  rw [toField, toPoly, map_sum]
  exact Finset.sum_congr rfl fun j _ => aeval_monomial_gf2 ..

/-- The product modulo `x⁴+x+1` is the product of the field (R72). -/
@[simp] theorem toField_fieldProduct (x y : GF16) : toField (fieldProduct x y) = toField x * toField y := by
  have hif (b : Bool) : toField (if b then y else 0#4) = (if b then 1 else 0) * toField y := by
    cases b <;> simp
  have hbit (b : Bool) (j : Nat) : (if b then alphaRoot ^ j else 0) = (if b then 1 else 0) * alphaRoot ^ j := by
    cases b <;> simp
  rw [toField_eq_sum x]
  simp only [fieldProduct, List.foldl_cons, List.foldl_nil, toField_xor, toField_timesX, hif, toField_zero, hbit,
    Finset.sum_range_succ, Finset.sum_range_zero]
  ring

/-- Different elements stand for different residues: an element other than 0 has an inverse (R65). -/
theorem toField_injective : Function.Injective toField := by
  intro u v h
  by_contra hne
  obtain ⟨w, -, hw⟩ := exists_gfDiv_built 1 (fun hzero => hne (BitVec.xor_eq_zero_iff.1 hzero) : u ^^^ v ≠ 0)
  have hone := congrArg toField hw
  have hdiff : toField (u ^^^ v) = 0 := by rw [toField_xor, h, CharTwo.add_self_eq_zero]
  rw [toField_fieldProduct, hdiff, mul_zero] at hone
  exact zero_ne_one (hone.trans toField_one)

/-- Only the element 0 stands for 0. -/
theorem toField_eq_zero_iff (v : GF16) : toField v = 0 ↔ v = 0 :=
  toField_injective.eq_iff' toField_zero

/-- Powers by repeated multiplication are powers of the field (R82). -/
@[simp] theorem toField_fieldPower (x : GF16) (e : Nat) : toField (fieldPower x e) = toField x ^ e := by
  induction e with
  | zero => rw [pow_zero]; exact toField_one
  | succ e ih => rw [fieldPower, toField_fieldProduct, ih, pow_succ]

/-- An exclusive-or over a list of places is a sum. -/
theorem toField_foldl_xor (f : Nat → GF16) (n : Nat) (acc : GF16) :
    toField ((List.range n).foldl (fun acc k => acc ^^^ f k) acc) =
      toField acc + ∑ k ∈ Finset.range n, toField (f k) := by
  induction n with
  | zero => simp
  | succ n ih => rw [List.range_succ, List.foldl_concat, toField_xor, ih, Finset.sum_range_succ, add_assoc]

/-! ### Values of words -/

/-- The value of a 15-bit word, a polynomial over GF(2), at an element of the closure (R110). -/
noncomputable def wordValue (r : Codeword) (a : Closure) : Closure := Polynomial.aeval a (toPoly r)

/-- The value of a word computed with products modulo `x⁴+x+1` is its value in the field (R110). -/
@[simp] theorem toField_wordEval (r : Codeword) (x : GF16) : toField (wordEval r x) = wordValue r (toField x) := by
  have hterm (k : Nat) : toField (if r.getLsbD k then fieldPower x k else 0#4) =
      Polynomial.aeval (toField x) (Polynomial.monomial k (gf2 (r.getLsbD k))) := by
    rw [aeval_monomial_gf2, apply_ite toField, toField_fieldPower, toField_zero]
  rw [wordEval, toField_foldl_xor, toField_zero, zero_add, wordValue, toPoly, map_sum]
  exact Finset.sum_congr rfl fun k _ => hterm k

/-- The value of a word is linear in the word (R113). -/
theorem wordValue_xor (r1 r2 : Codeword) (a : Closure) :
    wordValue (r1 ^^^ r2) a = wordValue r1 a + wordValue r2 a := by
  rw [wordValue, toPoly_xor, map_add, wordValue, wordValue]

/-- Squaring the place squares the value: the coefficients are bits (R113). -/
theorem wordValue_sq (r : Codeword) (a : Closure) : wordValue r (a ^ 2) = wordValue r a ^ 2 := by
  rw [wordValue, wordValue, ← map_pow, ← Polynomial.expand_aeval, ZMod.expand_card]

/-- The syndromes of an exclusive-or (R113). -/
theorem wordEval_xor (r1 r2 : Codeword) (x : GF16) : wordEval (r1 ^^^ r2) x = wordEval r1 x ^^^ wordEval r2 x := by
  apply toField_injective
  rw [toField_xor, toField_wordEval, toField_wordEval, toField_wordEval, wordValue_xor]

/-- A power of twice the exponent gives the square of the value (R113). -/
theorem wordEval_fieldPower_double (r : Codeword) (x : GF16) (e : Nat) :
    wordEval r (fieldPower x (2 * e)) = fieldProduct (wordEval r (fieldPower x e)) (wordEval r (fieldPower x e)) := by
  apply toField_injective
  rw [toField_fieldProduct, toField_wordEval, toField_wordEval, toField_fieldPower, toField_fieldPower, mul_comm, pow_mul,
    wordValue_sq, sq]

/-! ### SYND -/

/-- The element of a packed syndrome array (R52). -/
theorem element_packSvec (v : Vector GF16 6) {j : Nat} (hj : j < 6) : element (packSvec v) j = v[j] := by
  rw [← BitVec.toNat_inj, element_toNat, nibbleNat_packSvec v j hj]

/-- Element `j` of the syndrome array (R110). -/
theorem getElem_syndromeValues (r : Codeword) {j : Nat} (hj : j < 6) :
    (syndromeValues r)[j] = wordEval r (fieldPower 2 (j + 1)) := by
  rw [syndromeValues, Vector.getElem_ofFn]

/-- Syndrome `2i + 1` is the square of syndrome `i` (R113). -/
theorem syndromeValues_double (r : Codeword) {i : Nat} (hi : i < 3) :
    (syndromeValues r)[2 * i + 1] = fieldProduct (syndromeValues r)[i] (syndromeValues r)[i] := by
  rw [getElem_syndromeValues, getElem_syndromeValues, ← wordEval_fieldPower_double, Nat.mul_succ]

/-- Packed elements do not meet, so that a vector is also their exclusive-or (R52). -/
theorem packElements_cons_eq_xor (x : GF16) (xs : List GF16) :
    packElements (x :: xs) = x.setWidth 64 ^^^ (packElements xs <<< 4) := by
  refine BitVec.eq_of_getLsbD_eq fun k hk => ?_
  rw [packElements, BitVec.getLsbD_or, BitVec.getLsbD_xor, BitVec.getLsbD_setWidth, BitVec.getLsbD_shiftLeft]
  obtain hk4 | hk4 := Nat.lt_or_ge k 4
  · simp [hk4]
  · simp [x.getLsbD_of_ge k hk4]

/-- Packing is linear (R52). -/
theorem packElements_zipWith_xor (xs ys : List GF16) (h : xs.length = ys.length) :
    packElements (List.zipWith (· ^^^ ·) xs ys) = packElements xs ^^^ packElements ys := by
  induction xs generalizing ys with
  | nil =>
    obtain rfl := List.eq_nil_of_length_eq_zero h.symm
    rfl
  | cons x xs ih =>
    obtain ⟨y, ys, rfl⟩ := List.exists_cons_of_length_eq_add_one h.symm
    rw [List.zipWith_cons_cons, packElements_cons_eq_xor, packElements_cons_eq_xor, packElements_cons_eq_xor,
      ih ys (Nat.succ.inj h), BitVec.setWidth_xor, BitVec.shiftLeft_xor_distrib]
    ac_rfl

/-- The syndromes of an exclusive-or (R113). -/
theorem syndromeValues_xor (r1 r2 : Codeword) :
    syndromeValues (r1 ^^^ r2) = Vector.zipWith (· ^^^ ·) (syndromeValues r1) (syndromeValues r2) := by
  refine Vector.ext fun j hj => ?_
  rw [Vector.getElem_zipWith, getElem_syndromeValues, getElem_syndromeValues, getElem_syndromeValues, wordEval_xor]

/-- The packed syndromes of an exclusive-or (R113). -/
theorem packSvec_syndromeValues_xor (r1 r2 : Codeword) :
    packSvec (syndromeValues (r1 ^^^ r2)) = packSvec (syndromeValues r1) ^^^ packSvec (syndromeValues r2) := by
  rw [packSvec, syndromeValues_xor, Vector.toList_zipWith, packElements_zipWith_xor _ _ (by simp), packSvec, packSvec]

/-- Settles O43: SYND answers the values, which are linear, and squares at places of twice the exponent. -/
theorem syndromesAreLinearAndSquare : Obligations.SyndromesAreLinearAndSquare := by
  unfold Obligations.SyndromesAreLinearAndSquare
  intro s hready r1 r2
  refine ⟨_, _, synd_completes hready r1, synd_completes hready r2, ?_, ?_, ?_, ?_⟩
  · rw [← packSvec_syndromeValues_xor]
    exact synd_completes hready (r1 ^^^ r2)
  · rw [element_packSvec _ (by decide), element_packSvec _ (by decide)]
    exact syndromeValues_double r1 (i := 0) (by decide)
  · rw [element_packSvec _ (by decide), element_packSvec _ (by decide)]
    exact syndromeValues_double r1 (i := 1) (by decide)
  · rw [element_packSvec _ (by decide), element_packSvec _ (by decide)]
    exact syndromeValues_double r1 (i := 2) (by decide)

/-! ### The code -/

/-- The encoder's quotient is linear in the message (R107). -/
theorem messageQuotient_xor (m1 m2 : Msg) :
    messageQuotient (m1 ^^^ m2) = messageQuotient m1 ^^^ messageQuotient m2 := by
  rw [messageQuotient, BitVec.setWidth_xor, BitVec.shiftLeft_xor_distrib, xor_clmul, highHalf, BitVec.extractLsb'_xor]
  rfl

/-- The code is linear: a codeword is the product of its quotient and the generator (R107). -/
theorem codewordOf_xor (m1 m2 : Msg) : codewordOf (m1 ^^^ m2) = codewordOf m1 ^^^ codewordOf m2 := by
  have h : (codewordOf (m1 ^^^ m2)).setWidth 128 = (codewordOf m1 ^^^ codewordOf m2).setWidth 128 := by
    rw [BitVec.setWidth_xor, ← clmul_messageQuotient_genValue, ← clmul_messageQuotient_genValue,
      ← clmul_messageQuotient_genValue, messageQuotient_xor, xor_clmul]
  simpa using congrArg (BitVec.setWidth 15) h

/-- The codeword of each of the 31 messages other than 0 has at least 7 set bits (R107). -/
theorem seven_le_weight_codewordOf : ∀ m : Msg, m ≠ 0 → 7 ≤ weight (codewordOf m) := by decide +kernel

/-- The generator is 0 at the first six powers of `α` (R98). -/
theorem wordEval_generator : ∀ j < 6, wordEval 0x537 (fieldPower 2 (j + 1)) = 0 := by decide +kernel

/-- A codeword, a multiple of the generator, is 0 where the generator is (R112). -/
theorem wordEval_codewordOf (m : Msg) {j : Nat} (hj : j < 6) : wordEval (codewordOf m) (fieldPower 2 (j + 1)) = 0 := by
  have hmultiple : toPoly (codewordOf m) = toPoly (messageQuotient m) * toPoly (0x537 : Codeword) := by
    have hgen : genValue = (0x537 : Codeword).setWidth 64 := rfl
    rw [← toPoly_setWidth_of_le (codewordOf m) (by decide : 15 ≤ 128), ← clmul_messageQuotient_genValue, toPoly_clmul,
      hgen, toPoly_setWidth_of_le _ (by decide)]
  have hroot := congrArg toField (wordEval_generator j hj)
  rw [toField_wordEval, wordValue] at hroot
  rw [← toField_eq_zero_iff, toField_wordEval, wordValue, hmultiple, map_mul, hroot]
  exact (congrArg _ toField_zero).trans (mul_zero _)

/-- A codeword has the all-zero syndrome vector (R112). -/
theorem syndromeValues_codewordOf (m : Msg) : syndromeValues (codewordOf m) = Vector.replicate 6 0 := by
  refine Vector.ext fun j hj => ?_
  rw [getElem_syndromeValues, wordEval_codewordOf m hj, Vector.getElem_replicate]

/-- A word in its port is read back, so different words have different ports. -/
theorem port_codeword_injective : Function.Injective (port : Codeword → Port) :=
  Function.LeftInverse.injective wordOperand_port

/-- A command completes with one pair of results. -/
theorem Completes.inj {i : Instr} {s : State} {lo lo' hi hi' : Port} (h : Completes i s lo hi)
    (h' : Completes i s lo' hi') : lo = lo' ∧ hi = hi' := by
  have hresp := congrArg State.resp (Host.Outcome.next.inj (h.symm.trans h'))
  simpa using hresp

/-- A result of ENCODE in a run is the codeword of the message. -/
theorem eq_codewordOf_of_completes {s : State} (hready : s.Ready) {m : Msg} {c : Codeword}
    (h : Completes (.encode (port m) 0) s (port c) 0) : c = codewordOf m :=
  port_codeword_injective (h.inj (encode_completes hready m)).1

/-- Settles O41: the code is linear, so that a distance is a weight, and codewords are multiples of the generator. -/
theorem codewordsAreFarApartWithZeroSyndromes : Obligations.CodewordsAreFarApartWithZeroSyndromes := by
  unfold Obligations.CodewordsAreFarApartWithZeroSyndromes
  intro s hready m1 m2 c1 c2 h1 h2
  obtain rfl := eq_codewordOf_of_completes hready h1
  obtain rfl := eq_codewordOf_of_completes hready h2
  rw [← codewordOf_xor]
  refine ⟨encode_completes hready _, fun hne => seven_le_weight_codewordOf _ (BitVec.xor_eq_zero_iff.not.2 hne), ?_⟩
  have hsynd := synd_completes hready (codewordOf m1)
  rwa [syndromeValues_codewordOf] at hsynd

end Sys2Proof.Machine

/-! Proofs about the key-equation solver (45_key_equation.md). Both sides of a triple are read as polynomials over the field of the
syndromes; the solver keeps the two congruences of the extended Euclidean algorithm and the value of its determinant. -/

namespace Sys2Proof.Machine

open Polynomial

/-! ### Lists of coefficients -/

/-- The polynomial with the coefficients of a list, the least significant first (R114). -/
noncomputable def listPoly (l : List GF16) : Closure[X] :=
  ∑ i ∈ Finset.range l.length, monomial i (toField (l.getD i 0))

/-- Every coefficient is an element of the list, those past its end included. -/
@[simp] theorem coeff_listPoly (l : List GF16) (k : Nat) : (listPoly l).coeff k = toField (l.getD k 0) := by
  simp only [listPoly, finsetSum_coeff, coeff_monomial, Finset.sum_ite_eq', Finset.mem_range]
  split
  · rfl
  · rw [List.getD_eq_default _ _ (by omega)]
    exact toField_zero.symm

/-- No coefficients make the polynomial 0. -/
@[simp] theorem listPoly_nil : listPoly [] = 0 := rfl

/-- The first coefficient is the constant one. -/
@[simp] theorem listPoly_cons (x : GF16) (xs : List GF16) : listPoly (x :: xs) = C (toField x) + X * listPoly xs := by
  ext k
  rw [coeff_listPoly, coeff_add]
  cases k with
  | zero => simp
  | succ k => simp [coeff_C_succ]

/-! ### The two sides of a triple -/

section
variable {e ed er : ETriple} {k n : Nat}

/-- An element of the buffer, in the field; 0 past its end. -/
noncomputable def ETriple.entry (e : ETriple) (i : Nat) : Closure := toField (e.data.toList.getD i 0)

/-- The auxiliary side, least significant first (R114). -/
noncomputable def ETriple.auxiliary (e : ETriple) : Closure[X] := listPoly (extractLocator e)

/-- The dividend side, most significant first (R114). -/
noncomputable def ETriple.dividend (e : ETriple) : Closure[X] := listPoly (e.data.toList.take e.split).reverse

/-- An element inside the buffer. -/
theorem ETriple.entry_of_lt (e : ETriple) {i : Nat} (hi : i < 8) : e.entry i = toField e.data[i] := by
  rw [entry, List.getD_eq_getElem _ _ (by simpa using hi), Vector.getElem_toList]

/-- There is no element past the end of the buffer. -/
theorem ETriple.entry_of_ge (e : ETriple) {i : Nat} (hi : 8 ≤ i) : e.entry i = 0 := by
  rw [entry, List.getD_eq_default _ _ (by simpa using hi)]
  exact toField_zero

/-- The coefficient of `x^k` on the auxiliary side (R114). -/
theorem ETriple.coeff_auxiliary (e : ETriple) (k : Nat) : e.auxiliary.coeff k = e.entry (e.split + k) := by
  rw [auxiliary, coeff_listPoly, extractLocator, entry, List.getD_eq_getElem?_getD, List.getElem?_drop,
    List.getD_eq_getElem?_getD]

/-- The coefficient of `x^k` on the dividend side (R114). -/
theorem ETriple.coeff_dividend (h : e.split ≤ 8) (k : Nat) :
    e.dividend.coeff k = if k < e.split then e.entry (e.split - 1 - k) else 0 := by
  have hlen : (e.data.toList.take e.split).length = e.split := by simpa using h
  rw [dividend, coeff_listPoly]
  split
  case isTrue hk =>
    rw [entry, List.getD_eq_getElem?_getD, List.getElem?_reverse (by omega), hlen, List.getElem?_take_of_lt (by omega),
      ← List.getD_eq_getElem?_getD]
  case isFalse hk =>
    rw [List.getD_eq_default _ _ (by rw [List.length_reverse]; omega)]
    exact toField_zero

/-- A shift moves every element down by one place (R115). -/
theorem ETriple.entry_shl (e : ETriple) (i : Nat) : (shl e).entry i = e.entry (i + 1) := by
  obtain hi | hi := Nat.lt_or_ge i 7
  · rw [entry_of_lt _ (by omega), entry_of_lt _ (by omega)]
    interval_cases i <;> rfl
  · rw [entry_of_ge e (by omega)]
    obtain rfl | hi := hi.eq_or_lt
    · rw [entry_of_lt _ (by decide)]
      exact toField_zero
    · rw [entry_of_ge _ hi]

/-- A shift keeps the auxiliary side, whose powers are counted from the split index (R115). -/
theorem auxiliary_shl (hpos : 1 ≤ e.split) : (shl e).auxiliary = e.auxiliary := by
  have hsplit : (shl e).split = e.split - 1 := rfl
  ext k
  rw [ETriple.coeff_auxiliary, ETriple.coeff_auxiliary, ETriple.entry_shl, hsplit]
  congr 1
  omega

/-- A shift that drops a 0 keeps the dividend side (R115). -/
theorem dividend_shl (hpos : 1 ≤ e.split) (h8 : e.split ≤ 8) (hlead : e.data[0] = 0) :
    (shl e).dividend = e.dividend := by
  have hsplit : (shl e).split = e.split - 1 := rfl
  have hzero : e.entry 0 = 0 := by
    rw [e.entry_of_lt (by decide), hlead]
    exact toField_zero
  ext k
  rw [ETriple.coeff_dividend (by omega), ETriple.coeff_dividend h8, ETriple.entry_shl, hsplit]
  obtain hk | rfl | hk : k < e.split - 1 ∨ k = e.split - 1 ∨ e.split ≤ k := by omega
  · rw [if_pos hk, if_pos (by omega)]
    congr 1
    omega
  · rw [if_neg (lt_irrefl _), if_pos (by omega), Nat.sub_self, hzero]
  · rw [if_neg (by omega), if_neg (by omega)]

/-! ### One pass -/

/-- The subtraction changes the listed elements and no others (R119). -/
theorem exists_subtractMultiple_built_getElem (q : GF16) (src dst : Vector GF16 8) {a n : Nat} (hn : a + n ≤ 8) :
    ∃ v, subtractMultiple Tables.built q src (List.range' a n) dst = some v ∧
      ∀ i (hi : i < 8), v[i] = if a ≤ i ∧ i < a + n then dst[i] ^^^ fieldProduct q src[i] else dst[i] := by
  induction n generalizing a dst with
  | zero => exact ⟨dst, rfl, fun i hi => (if_neg (by omega)).symm⟩
  | succ n ih =>
    have ha8 : a < 8 := by omega
    obtain ⟨v, hv, hget⟩ := ih (dst.setIfInBounds a (dst[a] ^^^ fieldProduct q src[a])) (a := a + 1) (by omega)
    rw [List.range'_succ, subtractMultiple_built_cons q src dst ha8]
    refine ⟨v, hv, fun i hi => ?_⟩
    rw [hget i hi]
    obtain rfl | hne := eq_or_ne i a
    · rw [if_neg (by omega), if_pos (by omega), Vector.getElem_setIfInBounds_self]
    · rw [Vector.getElem_setIfInBounds_ne _ hne.symm]
      exact if_congr (by omega) rfl rfl

/-- The subtraction adds the multiple to the listed elements and keeps the others, read in the field (R119). -/
theorem exists_subtractMultiple_built_entry (q : GF16) (src dst : ETriple) {a n : Nat} (hn : a + n ≤ 8) :
    ∃ v, subtractMultiple Tables.built q src.data (List.range' a n) dst.data = some v ∧
      ∀ i, ({ dst with data := v } : ETriple).entry i =
        dst.entry i + if a ≤ i ∧ i < a + n then toField q * src.entry i else 0 := by
  obtain ⟨v, hv, hget⟩ := exists_subtractMultiple_built_getElem q src.data dst.data hn
  refine ⟨v, hv, fun i => ?_⟩
  obtain hi | hi := Nat.lt_or_ge i 8
  · rw [ETriple.entry_of_lt _ hi, dst.entry_of_lt hi, src.entry_of_lt hi, hget i hi]
    split <;> simp
  · rw [ETriple.entry_of_ge _ hi, dst.entry_of_ge hi, if_neg (by omega), add_zero]

/-- A coefficient of a multiple by a power of `x`. -/
theorem coeff_C_mul_X_pow_mul (c : Closure) (d : Nat) (f : Closure[X]) (k : Nat) :
    (C c * X ^ d * f).coeff k = if d ≤ k then c * f.coeff (k - d) else 0 := by
  rw [mul_assoc, coeff_C_mul, coeff_X_pow_mul', mul_ite, mul_zero]

/-- The auxiliary side is made of the elements from the split index up (R114). -/
theorem auxiliary_congr {e e' : ETriple} (hsplit : e'.split = e.split) (h : ∀ i, e.split ≤ i → e'.entry i = e.entry i) :
    e'.auxiliary = e.auxiliary := by
  ext k
  rw [ETriple.coeff_auxiliary, ETriple.coeff_auxiliary, hsplit, h _ (Nat.le_add_right ..)]

/-- The dividend side is made of the elements below the split index (R114). -/
theorem dividend_congr {e e' : ETriple} (h8 : e.split ≤ 8) (hsplit : e'.split = e.split)
    (h : ∀ i, i < e.split → e'.entry i = e.entry i) : e'.dividend = e.dividend := by
  ext k
  rw [ETriple.coeff_dividend (hsplit ▸ h8), ETriple.coeff_dividend h8, hsplit]
  split
  case isTrue hk => rw [h _ (by omega)]
  case isFalse => rfl

/-- Adding a multiple of the elements of ER's dividend to those of ED's, aligned at the leading ones, adds a multiple of the
polynomial (R119). -/
theorem dividend_eq_add {ed' : ETriple} {c : Closure} (hle : er.split ≤ ed.split) (h8 : ed.split ≤ 8)
    (hsplit : ed'.split = ed.split)
    (hentry : ∀ i, ed'.entry i = ed.entry i + if i < er.split then c * er.entry i else 0) :
    ed'.dividend = ed.dividend + C c * X ^ (ed.split - er.split) * er.dividend := by
  ext k
  rw [coeff_add, coeff_C_mul_X_pow_mul, ETriple.coeff_dividend (hsplit ▸ h8), ETriple.coeff_dividend h8,
    ETriple.coeff_dividend (hle.trans h8), hsplit, hentry]
  obtain hk | ⟨hd, hk⟩ | hk : k < ed.split - er.split ∨ (ed.split - er.split ≤ k ∧ k < ed.split) ∨ ed.split ≤ k := by omega
  · have hin : k < ed.split := by omega
    rw [if_pos hin, if_pos hin, if_neg (by omega), if_neg (by omega)]
  · have hplace : ed.split - 1 - k = er.split - 1 - (k - (ed.split - er.split)) := by omega
    rw [if_pos hk, if_pos hk, if_pos (by omega), if_pos hd, if_pos (by omega), ← hplace]
  · rw [if_neg (by omega), if_neg (by omega), if_pos (by omega), if_neg (by omega), mul_zero, add_zero]

/-- Adding a multiple of the elements of ED's auxiliary side to those of ER's, aligned at equal index, adds a multiple of the
polynomial (R119). -/
theorem auxiliary_eq_add {er' : ETriple} {c : Closure} (hle : er.split ≤ ed.split) (hsplit : er'.split = er.split)
    (hentry : ∀ i, er'.entry i = er.entry i + if ed.split ≤ i then c * ed.entry i else 0) :
    er'.auxiliary = er.auxiliary + C c * X ^ (ed.split - er.split) * ed.auxiliary := by
  ext k
  rw [coeff_add, coeff_C_mul_X_pow_mul, ETriple.coeff_auxiliary, ETriple.coeff_auxiliary, ETriple.coeff_auxiliary, hsplit,
    hentry]
  obtain hk | hk := Nat.lt_or_ge k (ed.split - er.split)
  · rw [if_neg (by omega), if_neg (by omega)]
  · have hplace : er.split + k = ed.split + (k - (ed.split - er.split)) := by omega
    rw [if_pos (by omega), if_pos hk, ← hplace]

/-- One pass subtracts a multiple of ER's dividend from ED's and the same multiple of ED's auxiliary from ER's, and keeps the other
two sides: the extended Euclidean step (R119). -/
structure EuclidStep (ed er : ETriple) (p : ETriple × ETriple) (m : Closure[X]) : Prop where
  dividend_ed : p.1.dividend = ed.dividend + m * er.dividend
  auxiliary_er : p.2.auxiliary = er.auxiliary + m * ed.auxiliary
  auxiliary_ed : p.1.auxiliary = ed.auxiliary
  dividend_er : p.2.dividend = er.dividend

/-- One pass is a Euclidean step, by a multiple of a power of `x` (R119). -/
theorem exists_euclidStep {p : ETriple × ETriple} (hp : reduceOnce Tables.built ed er = some p)
    (hle : er.split ≤ ed.split) (h8 : ed.split ≤ 8) : ∃ m, EuclidStep ed er p m := by
  by_cases hzero : ed.data[0] = 0#4
  · rw [reduceOnce, if_pos hzero] at hp
    cases hp
    exact ⟨0, by simp, by simp, rfl, rfl⟩
  · rw [reduceOnce, if_neg hzero] at hp
    cases hq : gfDiv Tables.built ed.data[0] er.data[0] with
    | none => simp [hq] at hp
    | some q =>
      obtain ⟨edData, hed, hedEntry⟩ :=
        exists_subtractMultiple_built_entry q er ed (a := 0) (n := er.split) (by omega)
      obtain ⟨erData, her, herEntry⟩ :=
        exists_subtractMultiple_built_entry q { ed with data := edData } er (a := ed.split) (n := 8 - ed.split) (by omega)
      rw [← List.range_eq_range'] at hed
      simp only [hq, hed, her, Option.bind_eq_bind, Option.bind_some, Option.some.injEq] at hp
      subst hp
      have hedSub (i : Nat) : ({ ed with data := edData } : ETriple).entry i =
          ed.entry i + if i < er.split then toField q * er.entry i else 0 := by
        simpa using hedEntry i
      have hedKeep (i : Nat) (hi : ed.split ≤ i) : ({ ed with data := edData } : ETriple).entry i = ed.entry i := by
        rw [hedSub, if_neg (by omega), add_zero]
      have herSub (i : Nat) : ({ er with data := erData } : ETriple).entry i =
          er.entry i + if ed.split ≤ i then toField q * ed.entry i else 0 := by
        rw [herEntry]
        obtain hi | hi := Nat.lt_or_ge i ed.split
        · rw [if_neg (by omega), if_neg (by omega)]
        · rw [if_pos hi, hedKeep i hi]
          obtain hi8 | hi8 := Nat.lt_or_ge i 8
          · rw [if_pos (by omega)]
          · rw [if_neg (by omega), ed.entry_of_ge hi8, mul_zero]
      have herKeep (i : Nat) (hi : i < ed.split) : ({ er with data := erData } : ETriple).entry i = er.entry i := by
        rw [herSub, if_neg (by omega), add_zero]
      exact ⟨_, dividend_eq_add hle h8 rfl hedSub, auxiliary_eq_add hle rfl herSub,
        auxiliary_congr rfl hedKeep, dividend_congr (hle.trans h8) rfl fun i hi => herKeep i (hi.trans_le hle)⟩

/-! ### What the solver keeps -/

/-- What the solver keeps, for the syndrome polynomial `f` (45_key_equation.md section 6): each dividend is congruent to the other
triple's auxiliary side times `f` modulo `x^6`, and the determinant of the two triples is `x^6`. -/
structure KeyInv (f : Closure[X]) (ed er : ETriple) : Prop where
  key : X ^ 6 ∣ ed.auxiliary * f + er.dividend
  key_swap : X ^ 6 ∣ er.auxiliary * f + ed.dividend
  det : ed.dividend * ed.auxiliary + er.dividend * er.auxiliary = X ^ 6

section
variable {f : Closure[X]}

/-- The two triples play the same part (R120). -/
theorem KeyInv.swap (h : KeyInv f ed er) : KeyInv f er ed :=
  ⟨h.key_swap, h.key, (add_comm ..).trans h.det⟩

/-- A Euclidean step keeps it (R119). -/
theorem KeyInv.euclidStep {p : ETriple × ETriple} {m : Closure[X]} (h : KeyInv f ed er) (hp : EuclidStep ed er p m) :
    KeyInv f p.1 p.2 := by
  obtain ⟨hdiv_ed, haux_er, haux_ed, hdiv_er⟩ := hp
  constructor
  · rw [haux_ed, hdiv_er]
    exact h.key
  · have hsum : p.2.auxiliary * f + p.1.dividend =
        er.auxiliary * f + ed.dividend + m * (ed.auxiliary * f + er.dividend) := by
      rw [haux_er, hdiv_ed]
      ring
    exact hsum ▸ dvd_add h.key_swap (h.key.mul_left m)
  · rw [hdiv_ed, haux_er, haux_ed, hdiv_er]
    linear_combination h.det + CharTwo.add_self_eq_zero (m * er.dividend * ed.auxiliary)

/-- Normalizing keeps both sides of a triple (R117). -/
theorem normalizeN_sides (n : Nat) (h8 : er.split ≤ 8) :
    (normalizeN n er).dividend = er.dividend ∧ (normalizeN n er).auxiliary = er.auxiliary := by
  induction n generalizing er with
  | zero => exact ⟨rfl, rfl⟩
  | succ n ih =>
    rw [normalizeN]
    split
    case isTrue hshift =>
      obtain ⟨hlead, hne⟩ := hshift
      have hpos : 1 ≤ er.split := Nat.one_le_iff_ne_zero.2 hne
      have hshl : (shl er).split = er.split - 1 := rfl
      rw [← dividend_shl hpos h8 hlead, ← auxiliary_shl hpos]
      exact ih (by omega)
    case isFalse => exact ⟨rfl, rfl⟩

/-- It speaks of the sides of the triples alone. -/
theorem KeyInv.of_sides_eq {er' : ETriple} (h : KeyInv f ed er) (hdiv : er'.dividend = er.dividend)
    (haux : er'.auxiliary = er.auxiliary) : KeyInv f ed er' := by
  obtain ⟨hkey, hswap, hdet⟩ := h
  rw [← hdiv] at hkey hdet
  rw [← haux] at hswap hdet
  exact ⟨hkey, hswap, hdet⟩

/-- Normalizing ER keeps it (R117). -/
theorem KeyInv.normalizeER (h : KeyInv f ed er) (h8 : er.split ≤ 8) : KeyInv f ed (normalizeER er) := by
  obtain ⟨hdiv, haux⟩ := normalizeN_sides er.split h8
  exact h.of_sides_eq hdiv haux

/-- Shifting ED keeps it, once the leading element is cancelled (R119). -/
theorem KeyInv.shl (h : KeyInv f ed er) (hpos : 1 ≤ ed.split) (h8 : ed.split ≤ 8) (hlead : ed.data[0] = 0) :
    KeyInv f (shl ed) er :=
  (h.swap.of_sides_eq (dividend_shl hpos h8 hlead) (auxiliary_shl hpos)).swap

/-- The sub-steps keep it (R119). -/
theorem KeyInv.reduceN {p : ETriple × ETriple} (h : KeyInv f ed er) (her : Divisor er) (hsplit : ed.split = er.split + n)
    (h8 : ed.split ≤ 8) (hp : reduceN Tables.built n ed er = some p) : KeyInv f p.1 p.2 := by
  have hpos := her.pos
  obtain ⟨q, hq, hlead, hleader, hed, her'⟩ := exists_reduceOnce_built (ed := ed) her (by omega)
  obtain ⟨m, hstep⟩ := exists_euclidStep hq (by omega) h8
  have hkey := h.euclidStep hstep
  induction n generalizing ed er q m with
  | zero =>
    rw [reduceN_of_split_eq hq (by omega)] at hp
    cases hp
    exact hkey
  | succ n ih =>
    have hdiv : Divisor q.2 := ⟨hleader ▸ her.lead, her' ▸ her.pos, her' ▸ her.le⟩
    have hshl : (Machine.shl q.1).split = q.1.split - 1 := rfl
    rw [reduceN_of_split_ne hq (by omega)] at hp
    have hkey' := hkey.shl (by omega) (by omega) hlead
    obtain ⟨r, hr, hleadr, hleaderr, hedr, herr⟩ := exists_reduceOnce_built (ed := Machine.shl q.1) hdiv (by omega)
    obtain ⟨m', hstep'⟩ := exists_euclidStep hr (by omega) (by omega)
    exact ih hkey' hdiv (by omega) (by omega) hp hdiv.pos r hr hleadr hleaderr hedr herr m' hstep' (hkey'.euclidStep hstep')

/-- The end of the main loop (R118, R120): ER is normalized and short, and its auxiliary side has no element in the last place. -/
structure LoopEnd (f : Closure[X]) (ed er : ETriple) : Prop extends KeyInv f ed er where
  ge : 4 ≤ ed.split
  le : ed.split ≤ 7
  er_le : er.split ≤ 3
  er_lead : er.data[0] = 0 → er.split = 0
  er_last : er.data[7] = 0

/-- A shift clears the last place, and normalizing keeps it clear (R115, R117). -/
theorem normalizeN_last (n : Nat) (h : er.data[7] = 0) : (normalizeN n er).data[7] = 0 := by
  induction n generalizing er with
  | zero => exact h
  | succ n ih =>
    rw [normalizeN]
    split
    case isTrue => exact ih rfl
    case isFalse => exact h

/-- Normalizing clears the last place when there is a leading 0 to drop (R115, R117). -/
theorem normalizeER_last (hpos : 1 ≤ er.split) (h : er.data[0] = 0 ∨ er.data[7] = 0) : (normalizeER er).data[7] = 0 := by
  obtain hlead | hlast := h
  · obtain ⟨n, hn⟩ := Nat.exists_eq_add_one.2 hpos
    rw [normalizeER, hn, normalizeN, if_pos ⟨hlead, by omega⟩]
    exact normalizeN_last n rfl
  · exact normalizeN_last _ hlast

/-- When the loop ends, what it keeps gives its end (R118). -/
theorem LoopInv.loopEnd (h : LoopInv n ed er) (hkey : KeyInv f ed er) (hpos : 1 ≤ er.split)
    (hlast : er.data[0] = 0 ∨ er.data[7] = 0) (hstop : (normalizeER er).split ≤ 3) : LoopEnd f ed (normalizeER er) where
  toKeyInv := hkey.normalizeER (h.er_le.trans (h.le.trans (by decide)))
  ge := h.ge
  le := h.le
  er_le := hstop
  er_lead := (normalizeN_spec le_rfl).2
  er_last := normalizeER_last hpos hlast

/-- The main loop reaches its end (R120, R129). -/
theorem exists_mainLoop_loopEnd (h : LoopInv n ed er) (hkey : KeyInv f ed er) (hpos : 1 ≤ er.split)
    (hlast : er.data[0] = 0 ∨ er.data[7] = 0) :
    ∃ p, mainLoop Tables.built n ed er = some p ∧ LoopEnd f p.1 p.2 := by
  induction n generalizing ed er with
  | zero => exact ⟨_, mainLoop_of_split_le h.normalized_le, h.loopEnd hkey hpos hlast h.normalized_le⟩
  | succ n ih =>
    obtain hstop | hlt := le_or_gt (normalizeER er).split 3
    · exact ⟨_, mainLoop_of_split_le hstop, h.loopEnd hkey hpos hlast hstop⟩
    · obtain ⟨hge, hle, her, hbound⟩ := h
      have hnorm := normalizeER_split_le er
      have hdiv := divisor_normalizeER (er := er) (by omega) (by omega)
      obtain ⟨p, hp, hlead, hed, her'⟩ := exists_reduceN_built (ed := ed) (n := ed.split - (normalizeER er).split) hdiv
        (by omega)
      have hkey' := (hkey.normalizeER (by omega)).reduceN hdiv (by omega) (by omega) hp
      have hdrop := normalizeER_split_lt hlead (by omega)
      rw [mainLoop_of_lt_split hlt hp]
      exact ih ⟨by omega, by omega, by omega, by omega⟩ hkey'.swap (by omega) (.inl hlead)

end

/-- The elements of a syndrome array, in order. -/
theorem toList_six (v : Vector GF16 6) : v.toList = [v[0], v[1], v[2], v[3], v[4], v[5]] := by
  refine List.ext_getElem (by simp) fun i hi _ => ?_
  have hi6 : i < 6 := by simpa using hi
  interval_cases i <;> rfl

/-- ER's dividend is the syndrome polynomial at first (R116). -/
theorem dividend_startER (v : Vector GF16 6) : (startER v).dividend = listPoly v.toList := by
  rw [toList_six]
  rfl

/-- The solver starts with it: ER's dividend is the syndrome polynomial, ED's is `x^6` (R116). -/
theorem keyInv_start (v : Vector GF16 6) : KeyInv (listPoly v.toList) startED (startER v) := by
  have haux_ed : startED.auxiliary = 1 := by
    have h : startED.auxiliary = listPoly [1] := rfl
    rw [h, listPoly_cons, listPoly_nil, mul_zero, add_zero]
    exact (congrArg C toField_one).trans C_1
  have hdiv_ed : startED.dividend = X ^ 6 := by
    have h : startED.dividend = listPoly [0#4, 0#4, 0#4, 0#4, 0#4, 0#4, 1#4] := rfl
    simp only [h, listPoly_cons, listPoly_nil, toField_zero, toField_one, C_0, C_1]
    ring
  have haux_er : (startER v).auxiliary = 0 := by
    have h : (startER v).auxiliary = listPoly [0#4, 0#4] := rfl
    simp [h]
  constructor
  · rw [haux_ed, dividend_startER, one_mul, CharTwo.add_self_eq_zero]
    exact dvd_zero _
  · rw [haux_er, hdiv_ed, zero_mul, zero_add]
  · rw [haux_ed, haux_er, hdiv_ed, mul_one, mul_zero, add_zero]

end

/-! ### What the solver delivers -/

/-- A coefficient of the scaled locator times the leading coefficient is the coefficient before (R123). -/
theorem exists_scaleLocator_built_listPoly {l : List GF16} (hne : l ≠ []) (hlead : l.head? ≠ some 0) :
    ∃ m c, scaleLocator Tables.built l = some m ∧ m.length = l.length ∧ m.head? = some 1 ∧ c ≠ 0 ∧
      listPoly l = C c * listPoly m := by
  obtain ⟨c, hc⟩ := Option.ne_none_iff_exists'.1 (List.head?_eq_none_iff.not.2 hne)
  have hc0 : c ≠ 0 := fun h => hlead (h ▸ hc)
  choose q hq hprod using fun x => exists_gfDiv_built x hc0
  have hone : q c = 1 := Option.some.inj ((hq c).symm.trans (gfDiv_built_self hc0))
  refine ⟨l.map q, toField c, ?_, List.length_map .., by simp [hc, hone], (toField_eq_zero_iff c).not.2 hc0, ?_⟩
  · simp only [scaleLocator, hc, hq, Option.bind_eq_bind, Option.bind_some]
    exact List.mapM_pure
  · ext k
    rw [coeff_C_mul, coeff_listPoly, coeff_listPoly, List.getD_eq_getElem?_getD, List.getD_eq_getElem?_getD,
      List.getElem?_map]
    cases l[k]? with
    | none => simp
    | some x =>
      have h := congrArg toField (hprod x)
      rw [toField_fieldProduct, mul_comm] at h
      exact h.symm

/-- What the solver makes of the end of its main loop (R121 to R124): the locator of a failure, or the auxiliary side of ED, scaled. -/
theorem exists_keysolve_loopEnd (v : Vector GF16 6) :
    ∃ ed er l, LoopEnd (listPoly v.toList) ed er ∧ keysolve Tables.built v = some l ∧
      ((locatorFails er (extractLocator ed) = true ∧ l = uncorrectableLocator) ∨
       (locatorFails er (extractLocator ed) = false ∧ l.uncorrectable = false ∧ l.coeffs.length = 8 - ed.split ∧
        l.coeffs.head? = some 1 ∧ ∃ c ≠ 0, ed.auxiliary = C c * listPoly l.coeffs)) := by
  obtain ⟨p, hp, hend⟩ := exists_mainLoop_loopEnd (loopInv_start v) (keyInv_start v) (by decide : 1 ≤ 6) (.inr rfl)
  have hge := hend.ge
  have hle := hend.le
  have hlen : (extractLocator p.1).length = 8 - p.1.split := by simp [extractLocator]
  rw [keysolve, hp]
  dsimp only [Option.bind_eq_bind, Option.bind_some]
  cases hfails : locatorFails p.2 (extractLocator p.1) with
  | true => exact ⟨p.1, p.2, _, hend, rfl, .inl ⟨hfails, rfl⟩⟩
  | false =>
    have hlead : (extractLocator p.1).head? ≠ some 0 := fun h => by simp [locatorFails, h] at hfails
    obtain ⟨m, c, hm, hmlen, hmone, hc, hpoly⟩ :=
      exists_scaleLocator_built_listPoly (List.ne_nil_of_length_pos (by omega)) hlead
    rw [hm]
    exact ⟨p.1, p.2, _, hend, rfl, .inr ⟨hfails, rfl, hmlen.trans hlen, hmone, c, hc, hpoly⟩⟩

/-- The leading coefficient of a dividend side that is not empty (R114). -/
theorem ETriple.coeff_dividend_lead {e : ETriple} (hpos : 1 ≤ e.split) (h8 : e.split ≤ 8) :
    e.dividend.coeff (e.split - 1) = toField e.data[0] := by
  rw [coeff_dividend h8, if_pos (by omega), Nat.sub_self, entry_of_lt _ (by decide)]

/-- A dividend side whose coefficients end below `m` is short once it is normalized (R117, R118). -/
theorem split_le_of_coeff_dividend {e : ETriple} {m : Nat} (h8 : e.split ≤ 8) (hlead : e.data[0] = 0 → e.split = 0)
    (h : ∀ k, m ≤ k → e.dividend.coeff k = 0) : e.split ≤ m := by
  by_contra hlt
  have hzero := h (e.split - 1) (by omega)
  rw [e.coeff_dividend_lead (by omega) h8, toField_eq_zero_iff] at hzero
  have := hlead hzero
  omega

/-- Without a failure the locator has its leading coefficient 1, 1 to 4 coefficients, and solves the key equation: the coefficients of
its product with the syndrome polynomial are 0 from some place up, which is at most 3 and below the size (R120, R122, R123). -/
theorem keysolve_keyEquation {v : Vector GF16 6} {l : Locator} (h : keysolve Tables.built v = some l)
    (hu : l.uncorrectable = false) :
    l.coeffs.head? = some 1 ∧ l.coeffs.length ≤ 4 ∧ ∃ m ≤ 3, m < l.coeffs.length ∧
      ∀ k, m ≤ k → k < 6 → (listPoly l.coeffs * listPoly v.toList).coeff k = 0 := by
  obtain ⟨ed, er, l', hend, hl', hcase⟩ := exists_keysolve_loopEnd v
  obtain rfl : l' = l := Option.some.inj (hl'.symm.trans h)
  obtain ⟨-, rfl⟩ | ⟨hfails, -, hlen, hone, c, hc, haux⟩ := hcase
  · cases hu
  · have hge := hend.ge
    have hle := hend.er_le
    have hshort : ¬ (extractLocator ed).length ≤ er.split := fun hle => by simp [locatorFails, hle] at hfails
    rw [extractLocator, List.length_drop, Vector.length_toList] at hshort
    refine ⟨hone, by omega, er.split, hle, by omega, fun k hk hk6 => ?_⟩
    have hkey := X_pow_dvd_iff.1 hend.key k hk6
    rw [coeff_add, ETriple.coeff_dividend (by omega), if_neg (by omega), add_zero, haux, mul_assoc, coeff_C_mul] at hkey
    exact (mul_eq_zero.1 hkey).resolve_left hc

/-! ### KEYSOLVE -/

/-- KEYSOLVE with its checks passed answers the solver (R127). -/
theorem exec_keysolve_of_fits {s : State} (hs : s.ready = true) {p : Port} (hp : fits 24 p = true) :
    exec (.keysolve p 0) s =
      answer s ((keysolve s.tables (svecOperand p)).map fun l => (packLvec l.coeffs, uncorrFlag l.uncorrectable)) := by
  simp [exec, execKeysolve, hs, hp]

/-- In a run KEYSOLVE completes with the solver's locator, whatever the vector (R127). -/
theorem keysolve_completes_of_fits {s : State} (hready : s.Ready) {p : Port} (hp : fits 24 p = true) {l : Locator}
    (h : keysolve Tables.built (svecOperand p) = some l) :
    Completes (.keysolve p 0) s (packLvec l.coeffs) (port (BitVec.ofBool l.uncorrectable)) := by
  rw [Completes, exec_keysolve_of_fits hready.2 hp, hready.tables_eq, h, ← uncorrFlag_eq_port]
  rfl

/-- Every locator of the solver has its leading coefficient 1 (R123, R124). -/
theorem head_keysolve_built {v : Vector GF16 6} {l : Locator} (h : keysolve Tables.built v = some l)
    (hfail : l.uncorrectable = true → l.coeffs = [1]) : l.coeffs.head? = some 1 := by
  cases hu : l.uncorrectable with
  | false => exact (keysolve_keyEquation h hu).1
  | true => rw [hfail hu, List.head?_cons]

/-- Settles O44: the checks, then the solver's locator. -/
theorem keysolveDeliversALocator : Obligations.KeysolveDeliversALocator := by
  unfold Obligations.KeysolveDeliversALocator
  refine fun s => ⟨fun a b hs => exec_refuses_notReady rfl hs, fun a b hs hwf => exec_refuses_operand (fun _ => hs) hwf,
    fun hready v => ?_⟩
  obtain ⟨l, hl, h1, h4, hfail⟩ := exists_keysolve_built (svecOperand (port v))
  exact ⟨l, hl, keysolve_completes_of_fits hready (fits_port v) hl, h1, h4, head_keysolve_built hl hfail, hfail⟩

/-- A syndrome is an element of its vector (R52). -/
theorem getD_toList_svecOperand (p : Port) {j : Nat} (hj : j < 6) : (svecOperand p).toList.getD j 0 = element p j := by
  rw [List.getD_eq_getElem _ _ (by simpa using hj), Vector.getElem_toList, svecOperand, Vector.getElem_ofFn]

/-- Settles O46: the sum of products is a coefficient of the product of two polynomials. -/
theorem keysolveLocatorSolvesTheKeyEquation : Obligations.KeysolveLocatorSolvesTheKeyEquation := by
  unfold Obligations.KeysolveLocatorSolvesTheKeyEquation
  intro v l hl hu k hk3 hk6
  obtain ⟨-, -, m, hm, -, hcoeff⟩ := keysolve_keyEquation hl hu
  have hkey := hcoeff k (by omega) hk6
  rw [coeff_mul, Finset.Nat.sum_antidiagonal_eq_sum_range_succ fun i j =>
    (listPoly l.coeffs).coeff i * (listPoly (svecOperand (port v)).toList).coeff j] at hkey
  rw [← toField_eq_zero_iff, toField_foldl_xor, (toField_eq_zero_iff 0).2 rfl, zero_add, ← hkey]
  refine Finset.sum_congr rfl fun i _ => ?_
  rw [toField_fieldProduct, coeff_listPoly, coeff_listPoly, getD_toList_svecOperand _ (by omega)]

/-- The all-zero syndrome vector has the constant locator (R127). -/
theorem keysolve_built_zero :
    keysolve Tables.built (Vector.replicate 6 0) = some { coeffs := [1], uncorrectable := false } := by decide +kernel

/-- A vector whose upper three syndromes are 0, not all six, makes the solver fail: it stops with the constant locator and a remainder
that is not shorter (R122, R127). -/
theorem keysolve_built_of_low {v : Vector GF16 6} (hv : v ≠ Vector.replicate 6 0)
    (hlow : ∀ k, 3 ≤ k → v.toList.getD k 0 = 0) : keysolve Tables.built v = some uncorrectableLocator := by
  have h8 : (startER v).split ≤ 8 := (by decide : 6 ≤ 8)
  have hsplit : (normalizeER (startER v)).split ≤ 8 := (normalizeER_split_le _).trans h8
  have hdiv : (normalizeER (startER v)).dividend = listPoly v.toList :=
    (normalizeN_sides _ h8).1.trans (dividend_startER v)
  have hstop : (normalizeER (startER v)).split ≤ 3 := by
    refine split_le_of_coeff_dividend hsplit (normalizeN_spec le_rfl).2 fun k hk => ?_
    rw [hdiv, coeff_listPoly, hlow k hk]
    exact toField_zero
  have hpos : 1 ≤ (normalizeER (startER v)).split := by
    by_contra hzero
    refine hv (Vector.ext fun j hj => ?_)
    have hcoeff := congrArg (coeff · j) hdiv
    rw [ETriple.coeff_dividend hsplit, if_neg (by omega), coeff_listPoly, List.getD_eq_getElem _ _ (by simpa using hj),
      Vector.getElem_toList] at hcoeff
    rw [Vector.getElem_replicate]
    exact (toField_eq_zero_iff _).1 hcoeff.symm
  have hextract : extractLocator startED = [1] := rfl
  have hfails : locatorFails (normalizeER (startER v)) [1] = true := by simp [locatorFails, hpos]
  rw [keysolve, mainLoop_of_split_le hstop]
  simp only [Option.bind_eq_bind, Option.bind_some, hextract, hfails, if_true]

section
variable {v : BitVec 12}

/-- Twelve bits in a port, as a number. -/
theorem toNat_port_twelve (v : BitVec 12) : (port v).toNat = v.toNat := BitVec.toNat_setWidth_of_le (by decide)

/-- Twelve bits are three syndromes: the upper ones are 0 (R52). -/
theorem getD_toList_svecOperand_of_three_le (v : BitVec 12) {k : Nat} (hk : 3 ≤ k) :
    (svecOperand (port v)).toList.getD k 0 = 0 := by
  obtain hk6 | hk6 := Nat.lt_or_ge k 6
  · have hlt : v.toNat < 16 ^ k := v.isLt.trans_le (Nat.pow_le_pow_right (n := 16) (by decide) hk)
    rw [getD_toList_svecOperand _ hk6]
    exact (element_eq_zero_iff _ _).2 (by rw [nibbleNat, toNat_port_twelve, Nat.div_eq_of_lt hlt])
  · exact List.getD_eq_default _ _ (by simpa using hk6)

/-- Twelve bits that are not all 0 hold a syndrome that is not 0 (R52). -/
theorem svecOperand_port_ne_zero (hv : v ≠ 0) : svecOperand (port v) ≠ Vector.replicate 6 0 := by
  intro hzero
  have hnibble {j : Nat} (hj : j < 6) : v.toNat / 16 ^ j % 16 = 0 := by
    have helement : element (port v) j = 0 := by
      rw [← getD_toList_svecOperand _ hj, hzero, List.getD_eq_getElem _ _ (by simpa using hj), Vector.getElem_toList,
        Vector.getElem_replicate]
    rw [← toNat_port_twelve]
    exact (element_eq_zero_iff _ _).1 helement
  have hlt := v.isLt
  have h0 := hnibble (j := 0) (by decide)
  have h1 := hnibble (j := 1) (by decide)
  have h2 := hnibble (j := 2) (by decide)
  exact hv (BitVec.eq_of_toNat_eq (show v.toNat = 0 by omega))

end

/-- Settles O45: the zero vector by the run of the solver on it, the others by its first stop. -/
theorem keysolveOnLowSyndromesAlone : Obligations.KeysolveOnLowSyndromesAlone := by
  unfold Obligations.KeysolveOnLowSyndromesAlone
  intro s hready v
  have hfits : fits 24 (port v) = true := by
    rw [fits_iff, toNat_port_twelve]
    exact v.isLt.trans (by decide)
  constructor
  · rintro rfl
    exact keysolve_completes_of_fits hready hfits keysolve_built_zero
  · intro hv
    exact keysolve_completes_of_fits hready hfits
      (keysolve_built_of_low (svecOperand_port_ne_zero hv) fun k hk => getD_toList_svecOperand_of_three_le v hk)

/-! ### The sequencer -/

/-- A number of transitions leads from one state of the sequencer to another (R126). -/
def Reaches (t : Tables) (q q' : Sequencer) : Prop := ∃ n, seqRun t n q = some q'

/-- Two runs one after the other. -/
theorem seqRun_add (t : Tables) (m n : Nat) (q : Sequencer) : seqRun t (m + n) q = (seqRun t m q).bind (seqRun t n) := by
  induction m generalizing q with
  | zero => rw [Nat.zero_add]; rfl
  | succ m ih =>
    rw [Nat.succ_add, seqRun, seqRun]
    cases seqStep t q with
    | none => rfl
    | some q' => exact ih q'

section
variable {t : Tables} {q q' q'' : Sequencer}

/-- Two runs one after the other are a run. -/
theorem Reaches.trans (h : Reaches t q q') (h' : Reaches t q' q'') : Reaches t q q'' := by
  obtain ⟨m, hm⟩ := h
  obtain ⟨n, hn⟩ := h'
  exact ⟨m + n, by rw [seqRun_add, hm, Option.bind_some, hn]⟩

/-- One transition is a run. -/
theorem Reaches.single (h : seqStep t q = some q') : Reaches t q q' := ⟨1, by rw [seqRun, h]; rfl⟩

/-- One transition and then a run are a run. -/
theorem Reaches.head (h : seqStep t q = some q') (h' : Reaches t q' q'') : Reaches t q q'' := (Reaches.single h).trans h'

end

section
variable {t : Tables} {n : Nat} {ed er : ETriple} {p : ETriple × ETriple}

/-- The sequencer in a given state, with given triples. -/
def Sequencer.moved (q : Sequencer) (k : KState) (ed er : ETriple) : Sequencer := { q with state := k, ed := ed, er := er }

/-- `K_NORM` normalizes ER (R117, R126). -/
theorem reaches_kTest (q : Sequencer) (ed : ETriple) (h : er.split ≤ n) :
    Reaches t (q.moved .kNorm ed er) (q.moved .kTest ed (normalizeN n er)) := by
  induction n generalizing er with
  | zero =>
    refine .single (if_neg ?_)
    rintro ⟨-, hne⟩
    exact hne (Nat.le_zero.1 h)
  | succ n ih =>
    have hshl : (shl er).split = er.split - 1 := rfl
    rw [normalizeN]
    split
    case isTrue hshift => exact .head (if_pos hshift) (ih (er := shl er) (by omega))
    case isFalse hstop => exact .single (if_neg hstop)

/-- What the sub-steps do when they end (R119). -/
theorem reduceN_cases (hp : reduceN t n ed er = some p) :
    ∃ r, reduceOnce t ed er = some r ∧
      ((r.1.split = r.2.split ∧ r = p) ∨
       (r.1.split ≠ r.2.split ∧ ∃ m, n = m + 1 ∧ reduceN t m (shl r.1) r.2 = some p)) := by
  rw [reduceN.eq_def] at hp
  obtain ⟨r, hr, hp⟩ := Option.bind_eq_some_iff.1 hp
  refine ⟨r, hr, ?_⟩
  split at hp
  case isTrue heq => exact .inl ⟨heq, Option.some.inj hp⟩
  case isFalse hne =>
    cases n with
    | zero => cases hp
    | succ m => exact .inr ⟨hne, m, rfl, hp⟩

/-- One pass of the sequencer (R119, R126). -/
theorem reaches_kCmp (q : Sequencer) (hp : reduceOnce t ed er = some p) :
    Reaches t (q.moved .kReduce ed er) (q.moved .kCmp p.1 p.2) :=
  .single ((congrArg (Option.map _) hp).trans rfl)

/-- From `K_REDUCE` the sub-steps lead to `K_SWAP` (R119, R126). -/
theorem reaches_kSwap (q : Sequencer) (hp : reduceN t n ed er = some p) :
    Reaches t (q.moved .kReduce ed er) (q.moved .kSwap p.1 p.2) := by
  induction n using Nat.strong_induction_on generalizing ed er with
  | _ n ih =>
    obtain ⟨r, hr, ⟨heq, rfl⟩ | ⟨hne, m, rfl, hrest⟩⟩ := reduceN_cases hp
    · have hcmp : seqStep t (q.moved .kCmp r.1 r.2) = some (q.moved .kSwap r.1 r.2) := by
        simp [seqStep, Sequencer.moved, heq]
      exact (reaches_kCmp q hr).trans (.single hcmp)
    · have hcmp : seqStep t (q.moved .kCmp r.1 r.2) = some (q.moved .kShift r.1 r.2) := by
        simp [seqStep, Sequencer.moved, hne]
      have hshift : seqStep t (q.moved .kShift r.1 r.2) = some (q.moved .kReduce (shl r.1) r.2) := rfl
      exact (reaches_kCmp q hr).trans (.head hcmp (.head hshift (ih m (Nat.lt_succ_self m) hrest)))

/-- What the main loop does when it ends (R118, R120). -/
theorem mainLoop_cases (hp : mainLoop t n ed er = some p) :
    ((normalizeER er).split ≤ 3 ∧ (ed, normalizeER er) = p) ∨
      (¬ (normalizeER er).split ≤ 3 ∧ ∃ m r, n = m + 1 ∧ reduceSteps t ed (normalizeER er) = some r ∧
        mainLoop t m r.2 r.1 = some p) := by
  rw [mainLoop.eq_def] at hp
  dsimp only at hp
  split at hp
  case isTrue hstop => exact .inl ⟨hstop, Option.some.inj hp⟩
  case isFalse hgo =>
    cases n with
    | zero => cases hp
    | succ m =>
      obtain ⟨r, hr, hrest⟩ := Option.bind_eq_some_iff.1 hp
      exact .inr ⟨hgo, m, r, rfl, hr, hrest⟩

/-- From `K_NORM` the main loop leads to `K_EXTRACT` (R118, R120, R126). -/
theorem reaches_kExtract (q : Sequencer) (hp : mainLoop t n ed er = some p) :
    Reaches t (q.moved .kNorm ed er) (q.moved .kExtract p.1 p.2) := by
  induction n using Nat.strong_induction_on generalizing ed er with
  | _ n ih =>
    refine (reaches_kTest q ed le_rfl).trans ?_
    obtain ⟨hstop, rfl⟩ | ⟨hgo, m, r, rfl, hr, hrest⟩ := mainLoop_cases hp
    · have htest : seqStep t (q.moved .kTest ed (normalizeER er)) = some (q.moved .kExtract ed (normalizeER er)) := by
        simp [seqStep, Sequencer.moved, Config.correctable, hstop]
      exact .single htest
    · have htest : seqStep t (q.moved .kTest ed (normalizeER er)) = some (q.moved .kReduce ed (normalizeER er)) := by
        simp [seqStep, Sequencer.moved, Config.correctable, hgo]
      have hswap : seqStep t (q.moved .kSwap r.1 r.2) = some (q.moved .kNorm r.2 r.1) := rfl
      exact .head htest ((reaches_kSwap q hr).trans (.head hswap (ih m (Nat.lt_succ_self m) hrest)))

/-- After a failed check `K_EXTRACT` leads through `K_FAIL` to `K_DONE` (R122, R124, R126). -/
theorem reaches_kDone_of_fails (q : Sequencer) (hfails : locatorFails er (extractLocator ed) = true) :
    ∃ q', Reaches t (q.moved .kExtract ed er) q' ∧ seqResult q' = some uncorrectableLocator := by
  have hextract : seqStep t (q.moved .kExtract ed er) =
      some { q.moved .kFail ed er with coeffs := extractLocator ed } := by
    simp [seqStep, Sequencer.moved, hfails]
  exact ⟨_, .head hextract (.single rfl), rfl⟩

/-- After the checks `K_EXTRACT` leads through `K_SCALE` to `K_DONE` (R123, R126). -/
theorem reaches_kDone_of_scale (q : Sequencer) (hfails : locatorFails er (extractLocator ed) = false) {l : List GF16}
    (hl : scaleLocator t (extractLocator ed) = some l) :
    ∃ q', Reaches t (q.moved .kExtract ed er) q' ∧
      seqResult q' = some { coeffs := l, uncorrectable := false } := by
  have hextract : seqStep t (q.moved .kExtract ed er) =
      some { q.moved .kScale ed er with coeffs := extractLocator ed } := by
    simp [seqStep, Sequencer.moved, hfails]
  exact ⟨_, .head hextract (.single (congrArg (Option.map _) hl)), rfl⟩

end

/-- Settles O47: the main loop, then the extraction, each followed by the sequencer transition by transition. -/
theorem sequencerRefinesKeysolve : Obligations.SequencerRefinesKeysolve := by
  unfold Obligations.SequencerRefinesKeysolve
  intro t v l hl
  obtain ⟨p, hp, hl⟩ := Option.bind_eq_some_iff.1 hl
  have hinit : seqStep t (seqStart v) = some ((seqStart v).moved .kNorm startED (startER v)) := rfl
  have hloop := (Reaches.single hinit).trans (reaches_kExtract (seqStart v) hp)
  obtain ⟨q, ⟨n, hn⟩, hq⟩ : ∃ q, Reaches t (seqStart v) q ∧ seqResult q = some l := by
    dsimp only at hl
    split at hl
    case isTrue hfails =>
      cases hl
      obtain ⟨q, hreach, hq⟩ := reaches_kDone_of_fails (t := t) (seqStart v) hfails
      exact ⟨q, hloop.trans hreach, hq⟩
    case isFalse hok =>
      obtain ⟨m, hm, rfl⟩ := Option.map_eq_some_iff.1 hl
      obtain ⟨q, hreach, hq⟩ := reaches_kDone_of_scale (seqStart v) (Bool.not_eq_true _ ▸ hok) hm
      exact ⟨q, hloop.trans hreach, hq⟩
  exact ⟨n, by rw [hn, Option.bind_some, hq]⟩

end Sys2Proof.Machine

/-! Proofs about what the responses of a run can be (30_encoding.md section 3, 60_exceptions.md section 1, 70_reset_and_hazards.md
section 2): once its READY check has passed, a command of a run is refused for an error of its list other than `ERR_NOT_READY`, or
completes with results that fit its fields. -/

namespace Sys2Proof.Machine

/-- A result that answers with an error of the list, or completes with results of the widths. -/
def Lawful (errors : List ErrCode) (widths : Nat × Nat) (k : Result) : Prop :=
  ∃ t, k = .next t ∧ ((∃ e ∈ errors, t.resp = some (.refused e)) ∨
    ∃ lo hi, t.resp = some (.done lo hi) ∧ lo.toNat < 2 ^ widths.1 ∧ hi.toNat < 2 ^ widths.2)

section
variable {errors : List ErrCode} {w : Nat × Nat} {s : State} {k : Result}

/-- A check for a listed error, before what is lawful when it passes. -/
theorem lawful_require {ok : Bool} {e : ErrCode} (he : errors.contains e = true) (h : ok = true → Lawful errors w k) :
    Lawful errors w (require ok e s k) := by
  cases ok with
  | false => exact ⟨_, rfl, .inl ⟨e, List.contains_iff_mem.1 he, rfl⟩⟩
  | true => exact h rfl

/-- The READY check of a ready unit. -/
theorem lawful_require_ready {e : ErrCode} (hs : s.ready = true) (h : Lawful errors w k) :
    Lawful errors w (require s.ready e s k) := by
  rwa [hs, require_true]

/-- A procedure with a value that fits the widths. -/
theorem lawful_answer {o : Option (Port × Port)} {lo hi : Port} (h : o = some (lo, hi)) (hlo : lo.toNat < 2 ^ w.1)
    (hhi : hi.toNat < 2 ^ w.2) : Lawful errors w (answer s o) := by
  rw [h]
  exact ⟨_, rfl, .inr ⟨lo, hi, rfl, hlo, hhi⟩⟩

/-- A procedure with a value, zero-extended (R51). -/
theorem lawful_answer_low {n : Nat} {o : Option (BitVec n)} {v : BitVec n} (h : o = some v) :
    Lawful errors (n, 0) (answer s (o.map low)) := by
  rw [h]
  refine lawful_answer rfl ?_ Nat.one_pos
  rw [BitVec.toNat_setWidth]
  exact (Nat.mod_le ..).trans_lt v.isLt

end

/-! ### The values of a run -/

/-- Below `NMIN` every minimal polynomial has a value (R15). -/
theorem exists_readMinpoly_of_indexOk {s : State} (hready : s.Ready) {i : BitVec 3} (h : minpolyIndexOk s i = true) :
    ∃ p, s.readMinpoly i.toNat = some p := by
  obtain ⟨-, hminpoly, hnmin, -, -⟩ := hready.built
  have hread : ∀ i : BitVec 3, i.toNat < (3#3).toNat → ∃ p, (minpolyValue.toList[i.toNat]?).join = some p := by decide
  simp only [minpolyIndexOk, hnmin, decide_eq_true_iff] at h
  rw [State.readMinpoly, hminpoly]
  exact hread i h

/-- The status fields take 5 bits (R50). -/
theorem statusFields_toNat_lt : ∀ (ready cfgerr : Bool) (n : BitVec 3), (statusFields ready cfgerr n).toNat < 2 ^ 5 := by
  decide

/-- The field of RDSTAT for `NMIN` has a value when a ready unit is one of a run (R145). -/
theorem exists_statusNmin {s : State} (hrun : s.ready = true → s.Ready) : ∃ n, statusNmin s = some n := by
  rw [statusNmin]
  cases hs : s.ready with
  | false => exact ⟨_, rfl⟩
  | true =>
    obtain ⟨-, -, hnmin, -, -⟩ := (hrun hs).built
    exact ⟨_, hnmin⟩

/-- A flag takes one bit (R55). -/
theorem uncorrFlag_toNat_lt (u : Bool) : (uncorrFlag u).toNat < 2 ^ 1 := by cases u <;> decide

/-- A valid locator operand has at most 4 coefficients (R53). -/
theorem length_lvecOperand_le {p : Port} (h : lvecValid p = true) : (lvecOperand p).length ≤ 4 := by
  rw [lvecValid_eq, decide_eq_true_iff] at h
  obtain ⟨-, h4, -⟩ := h
  rw [← lvecSize_eq] at h4
  simpa [lvecOperand, elements] using h4

/-- The quotient of PRECIP has one bit above its low 64 (R89). -/
theorem precip_top_toNat_lt (q : BitVec 65) : ((q >>> 64).setWidth 64).toNat < 2 ^ 1 := by
  have hq := q.isLt
  rw [BitVec.toNat_setWidth, BitVec.toNat_ushiftRight, Nat.shiftRight_eq_div_pow]
  omega

/-- PRECIP's quotient has a value for every divisor but 0 (R87). -/
theorem exists_polyRecip {d : BitPoly} (hd : d ≠ 0) : ∃ q, polyRecip d = some q := by
  obtain ⟨n, hn, hhsb, hbit⟩ := exists_hsb hd
  obtain ⟨quo, rem, hquo, -⟩ := exists_polyRecipRem hbit hn hhsb
  exact ⟨quo, by rw [polyRecip, hquo]; rfl⟩

/-- The decoder has a result for every word, with at most 3 errors found (R136, R139). -/
theorem exists_decodeReceived_built (r : Codeword) :
    ∃ d, decodeReceived Tables.built r = some d ∧ d.errorsFound ≤ 3 := by
  obtain ⟨l, hl, -, h4, hfail⟩ := exists_keysolve_built (syndromeValues r)
  exact ⟨_, decodeReceived_built r hl hfail, length_rootOffsets_le h4⟩

/-- The flags of DECODE take 6 bits (R55). -/
theorem decodeFlags_toNat_lt (u : Bool) {n : Nat} (hn : n ≤ 3) : (decodeFlags u n).toNat < 2 ^ 6 := by
  have hu := u.toNat_lt
  rw [decodeFlags_eq u hn, BitVec.toNat_ofNat]
  omega

/-- A zero-extended word takes the bits it has (R51). -/
theorem toNat_setWidth_lt {n m : Nat} (v : BitVec n) : (v.setWidth m).toNat < 2 ^ n := by
  rw [BitVec.toNat_setWidth]
  exact (Nat.mod_le ..).trans_lt v.isLt

/-! ### Every command -/

/-- Once its READY check has passed, a command answers with an error of its list other than `ERR_NOT_READY`, or completes with results
of its widths; a unit with READY = 1 is taken to be one of a run (R50, R158). -/
theorem exec_lawful {i : Instr} {s : State} (hrun : s.ready = true → s.Ready) (hgate : i.needsReady = true → s.ready = true) :
    Lawful (i.possibleErrors.erase .notReady) i.resultWidths (exec i s) := by
  cases i with
  | init a b =>
    rw [exec_init]
    exact lawful_require rfl fun _ => ⟨_, rfl, .inr ⟨0, 0, rfl, Nat.one_pos, Nat.one_pos⟩⟩
  | rdstat a b =>
    obtain ⟨n, hn⟩ := exists_statusNmin hrun
    exact lawful_require rfl fun _ => lawful_answer (hi := 0#64) (by rw [hn]; rfl) (statusFields_toNat_lt _ _ n) Nat.one_pos
  | rdgen a b =>
    have hs := hgate rfl
    obtain ⟨-, -, -, hgen, -⟩ := (hrun hs).built
    exact lawful_require_ready hs (lawful_require rfl fun _ => lawful_answer_low hgen)
  | rdrcp a b =>
    have hs := hgate rfl
    obtain ⟨-, -, -, -, hrecip⟩ := (hrun hs).built
    exact lawful_require_ready hs (lawful_require rfl fun _ => lawful_answer_low hrecip)
  | rdminp a b =>
    have hs := hgate rfl
    refine lawful_require_ready hs (lawful_require rfl fun _ => lawful_require rfl fun hindex => ?_)
    obtain ⟨p, hp⟩ := exists_readMinpoly_of_indexOk (hrun hs) hindex
    exact lawful_answer_low hp
  | gfexp a b =>
    have hs := hgate rfl
    refine lawful_require_ready hs (lawful_require rfl fun _ => ?_)
    rw [(hrun hs).tables_eq]
    exact lawful_answer_low (readExp_built_eq_expOf _)
  | gflog a b =>
    have hs := hgate rfl
    refine lawful_require_ready hs (lawful_require rfl fun _ => lawful_require rfl fun hne => ?_)
    rw [(hrun hs).tables_eq]
    exact lawful_answer_low (readLog_built_eq_logOf _ (bne_iff_ne.1 hne))
  | gfadd a b => exact lawful_require rfl fun _ => lawful_answer_low (o := some _) rfl
  | gfsub a b => exact lawful_require rfl fun _ => lawful_answer_low (o := some _) rfl
  | gfmul a b =>
    have hs := hgate rfl
    refine lawful_require_ready hs (lawful_require rfl fun _ => ?_)
    rw [(hrun hs).tables_eq]
    exact lawful_answer_low (gfMul_built _ _)
  | gfdiv a b =>
    have hs := hgate rfl
    refine lawful_require_ready hs (lawful_require rfl fun _ => lawful_require rfl fun hne => ?_)
    rw [(hrun hs).tables_eq]
    obtain ⟨q, hq, -⟩ := exists_gfDiv_built (gfOperand a) (bne_iff_ne.1 hne)
    exact lawful_answer_low hq
  | gfpow a b =>
    have hs := hgate rfl
    refine lawful_require_ready hs (lawful_require rfl fun _ => lawful_require rfl fun hne => ?_)
    rw [(hrun hs).tables_eq]
    exact lawful_answer_low (gfPow_built (bne_iff_ne.1 hne) _)
  | clmul a b => exact ⟨_, rfl, .inr ⟨_, _, rfl, BitVec.isLt _, BitVec.isLt _⟩⟩
  | precip a b =>
    refine lawful_require rfl fun _ => lawful_require rfl fun hne => ?_
    obtain ⟨q, hq⟩ := exists_polyRecip (bne_iff_ne.1 hne)
    exact lawful_answer (by rw [hq]; rfl) (BitVec.isLt _) (precip_top_toNat_lt q)
  | pdeg a b =>
    refine lawful_require rfl fun _ => lawful_require rfl fun hne => ?_
    obtain ⟨n, -, hn, -⟩ := exists_hsb (bne_iff_ne.1 hne)
    exact lawful_answer (hi := 0#64) (by rw [hn]; rfl) (toNat_setWidth_lt (BitVec.ofNat 6 n)) Nat.one_pos
  | encode a b =>
    have hs := hgate rfl
    refine lawful_require_ready hs (lawful_require rfl fun _ => ?_)
    exact lawful_answer_low (encodeMsg_eq_codewordOf (hrun hs) _)
  | synd a b =>
    have hs := hgate rfl
    refine lawful_require_ready hs (lawful_require rfl fun _ => ?_)
    rw [(hrun hs).tables_eq, syndromes_built]
    exact lawful_answer rfl (packSvec_toNat_lt _) Nat.one_pos
  | keysolve a b =>
    have hs := hgate rfl
    refine lawful_require_ready hs (lawful_require rfl fun _ => ?_)
    obtain ⟨l, hl, -, h4, -⟩ := exists_keysolve_built (svecOperand a)
    rw [(hrun hs).tables_eq, hl]
    exact lawful_answer rfl ((fits_iff 19 _).1 (fits_packLvec h4)) (uncorrFlag_toNat_lt _)
  | rootfind a b =>
    have hs := hgate rfl
    refine lawful_require_ready hs (lawful_require rfl fun _ => lawful_require rfl fun hvalid => ?_)
    rw [(hrun hs).tables_eq, rootfind_built]
    exact lawful_answer rfl ((fits_iff 14 _).1 (fits_packOvec (length_rootOffsets_le (length_lvecOperand_le hvalid))))
      (uncorrFlag_toNat_lt _)
  | correct a b =>
    exact lawful_require rfl fun _ => lawful_require rfl fun _ => lawful_answer_low (o := some _) rfl
  | decode a b =>
    have hs := hgate rfl
    refine lawful_require_ready hs (lawful_require rfl fun _ => ?_)
    obtain ⟨d, hd, h3⟩ := exists_decodeReceived_built (wordOperand a)
    rw [(hrun hs).tables_eq, hd]
    exact lawful_answer rfl (toNat_setWidth_lt d.corrected) (decodeFlags_toNat_lt _ h3)

/-- In a run, a command whose READY check fails has `ERR_NOT_READY` on its list (R158, R171). -/
theorem notReady_mem_possibleErrors {i : Instr} (h : i.needsReady = true) : ErrCode.notReady ∈ i.possibleErrors := by
  cases i with
  | init | rdstat | gfadd | gfsub | clmul | precip | pdeg | correct => exact absurd h Bool.false_ne_true
  | _ => exact List.mem_cons_self

/-- A list of errors without `ERR_NOT_READY` does not hold it. -/
theorem notReady_not_mem_erase (i : Instr) : ErrCode.notReady ∉ i.possibleErrors.erase .notReady := by
  cases i <;> dsimp only [Instr.possibleErrors] <;> decide

/-- A unit of a run that is ready is a ready unit of a run. -/
theorem State.Inv.ready {s : State} (h : s.Inv) (hs : s.ready = true) : s.Ready := ⟨h, hs⟩

/-- A result that is lawful gives no error outside the list. -/
theorem Lawful.mem_of_refused {errors : List ErrCode} {w : Nat × Nat} {k : Result} {t : State} {e : ErrCode}
    (h : Lawful errors w k) (ht : k = .next t) (he : t.resp = some (.refused e)) : e ∈ errors := by
  obtain ⟨t', ht', ⟨e', hmem, he'⟩ | ⟨lo, hi, hdone, -⟩⟩ := h
  · cases ht.symm.trans ht'
    cases he.symm.trans he'
    exact hmem
  · cases ht.symm.trans ht'
    cases he.symm.trans hdone

/-- A result that is lawful completes with results of the widths alone. -/
theorem Lawful.lt_of_done {errors : List ErrCode} {w : Nat × Nat} {k : Result} {t : State} {lo hi : Port}
    (h : Lawful errors w k) (ht : k = .next t) (hdone : t.resp = some (.done lo hi)) :
    lo.toNat < 2 ^ w.1 ∧ hi.toNat < 2 ^ w.2 := by
  obtain ⟨t', ht', ⟨e', -, he'⟩ | ⟨lo', hi', hdone', hwidths⟩⟩ := h
  · cases ht.symm.trans ht'
    cases hdone.symm.trans he'
  · cases ht.symm.trans ht'
    cases hdone.symm.trans hdone'
    exact hwidths

/-- In a run a command either fails its READY check or passes it (R156). -/
theorem gate_cases (i : Instr) (s : State) :
    (i.needsReady = true ∧ s.ready = false) ∨ (i.needsReady = true → s.ready = true) := by
  cases i.needsReady <;> cases s.ready <;> simp

/-- Settles O14: the READY check, then the errors of the command. -/
theorem errorsAreThoseListed : Obligations.ErrorsAreThoseListed := by
  unfold Obligations.ErrorsAreThoseListed
  intro i s t e hinv ht he
  obtain ⟨hi, hs⟩ | hgate := gate_cases i s
  · cases (exec_refuses_notReady hi hs).symm.trans ht
    cases he
    exact notReady_mem_possibleErrors hi
  · exact List.mem_of_mem_erase ((exec_lawful hinv.ready hgate).mem_of_refused ht he)

/-- Settles O15: the READY check, and the errors of a command that passes it. -/
theorem readyGatesThirteenCommands : Obligations.ReadyGatesThirteenCommands := by
  unfold Obligations.ReadyGatesThirteenCommands
  refine fun i s => ⟨fun hs hi => exec_refuses_notReady hi hs, fun hcase hi t ht hresp => ?_, fun hready t ht hresp => ?_⟩
  · have hrun : s.ready = true → s.Ready := fun hs =>
      hcase.elim (fun hnot => absurd (hs.symm.trans hnot) (by decide)) fun hinv => ⟨hinv, hs⟩
    have hgate : i.needsReady = true → s.ready = true := fun h => absurd (h.symm.trans hi) (by decide)
    exact notReady_not_mem_erase i ((exec_lawful hrun hgate).mem_of_refused ht hresp)
  · exact notReady_not_mem_erase i
      ((exec_lawful (fun _ => hready) fun _ => hready.2).mem_of_refused ht hresp)

/-- Settles O20: a command that completes has passed its READY check, and its results fit. -/
theorem resultsAreZeroExtended : Obligations.ResultsAreZeroExtended := by
  unfold Obligations.ResultsAreZeroExtended
  intro i s t lo hi hinv ht hdone
  obtain ⟨hi, hs⟩ | hgate := gate_cases i s
  · cases (exec_refuses_notReady hi hs).symm.trans ht
    cases hdone
  · exact (exec_lawful hinv.ready hgate).lt_of_done ht hdone

end Sys2Proof.Machine

/-! Proofs about decoding (46_root_correct_decode.md section 3): for the syndromes of up to three errors the solver's locator is, up to
a constant, the product over the error places, and a locator with enough roots shows errors with the given syndromes. -/

namespace Sys2Proof.Machine

open Polynomial

/-! ### The powers of `α` in the field -/

/-- The element 2 stands for the root (R4). -/
theorem toField_two : toField 2 = alphaRoot := by
  have h : (2 : GF16) = timesX 1#4 := rfl
  rw [h, toField_timesX, toField_one, mul_one]

/-- A power of `α` in the field. -/
theorem toField_fieldPower_two (j : Nat) : toField (fieldPower 2 j) = alphaRoot ^ j := by
  rw [toField_fieldPower, toField_two]

/-- The root is not 0. -/
theorem alphaRoot_ne_zero : alphaRoot ≠ 0 := by
  rw [← toField_two]
  exact (toField_eq_zero_iff 2).not.2 (by decide)

/-- The first 15 powers of `α` are different (R67). -/
theorem alphaRoot_pow_inj {i j : Nat} (hi : i < 15) (hj : j < 15) (h : alphaRoot ^ i = alphaRoot ^ j) : i = j := by
  rw [← toField_fieldPower_two, ← toField_fieldPower_two] at h
  have hlog := readLog_built_fieldPower i hi
  rw [toField_injective h, readLog_built_fieldPower j hj] at hlog
  have hnat := congrArg BitVec.toNat (Option.some.inj hlog)
  rw [BitVec.toNat_ofNat, BitVec.toNat_ofNat] at hnat
  omega

/-! ### The locator of an error mask -/

/-- The places of the set bits of a word. -/
def errorPlaces (e : Codeword) : Finset Nat := (Finset.range 15).filter fun j => e.getLsbD j

/-- A set bit is below the width. -/
theorem mem_errorPlaces {e : Codeword} {j : Nat} : j ∈ errorPlaces e ↔ j < 15 ∧ e.getLsbD j = true := by
  rw [errorPlaces, Finset.mem_filter, Finset.mem_range]

/-- The weight counts the places. -/
theorem card_errorPlaces (e : Codeword) : (errorPlaces e).card = weight e := by
  have hfilter : (List.range 15).filter (fun j => decide (e.getLsbD j = true)) = (List.range 15).filter fun j => e.getLsbD j :=
    List.filter_congr fun j _ => Bool.decide_eq_true
  exact congrArg List.length hfilter

/-- The value of a word is the sum of the powers at its set bits (R110). -/
theorem wordValue_eq_sum (r : Codeword) (a : Closure) : wordValue r a = ∑ j ∈ errorPlaces r, a ^ j := by
  rw [wordValue, toPoly, map_sum, errorPlaces, Finset.sum_filter]
  exact Finset.sum_congr rfl fun j _ => aeval_monomial_gf2 ..

/-- The syndromes of one error at the place of `a`, as a polynomial. -/
noncomputable def errorSyndromes (a : Closure) : Closure[X] := ∑ k ∈ Finset.range 6, monomial k (a ^ (k + 1))

/-- The syndrome polynomial is the sum over the errors (R110). -/
theorem listPoly_syndromeValues (e : Codeword) :
    listPoly (syndromeValues e).toList = ∑ j ∈ errorPlaces e, errorSyndromes (alphaRoot ^ j) := by
  ext k
  simp only [finsetSum_coeff, errorSyndromes, coeff_monomial, Finset.sum_ite_eq', Finset.mem_range]
  rw [coeff_listPoly]
  split
  case isTrue hk =>
    rw [List.getD_eq_getElem _ _ (by simpa using hk), Vector.getElem_toList, getElem_syndromeValues, toField_wordEval,
      toField_fieldPower_two, wordValue_eq_sum]
    exact Finset.sum_congr rfl fun j _ => by rw [← pow_mul, ← pow_mul, mul_comm]
  case isFalse hk =>
    rw [List.getD_eq_default _ _ (by simpa using hk), Finset.sum_const_zero]
    exact toField_zero

/-- The polynomial with the inverses of the error places as roots. -/
noncomputable def errorLocator (e : Codeword) : Closure[X] := ∏ j ∈ errorPlaces e, (X - C (alphaRoot ^ j)⁻¹)

/-- The factor of an error place turns its syndromes into a constant, modulo `x^6`. -/
theorem X_sub_C_mul_errorSyndromes {a : Closure} (ha : a ≠ 0) :
    (X - C a⁻¹) * errorSyndromes a + 1 = X ^ 6 * C (a ^ 6) := by
  have hinv : C a * C a⁻¹ = 1 := by rw [← C_mul, mul_inv_cancel₀ ha, C_1]
  simp only [errorSyndromes, Finset.sum_range_succ, Finset.sum_range_zero, ← C_mul_X_pow_eq_monomial, C_pow]
  linear_combination (-(1 + C a * X + C a ^ 2 * X ^ 2 + C a ^ 3 * X ^ 3 + C a ^ 4 * X ^ 4 + C a ^ 5 * X ^ 5)) * hinv

/-- The key equation of an error mask: the remainder is the derivative of the locator (45_key_equation.md section 6). -/
theorem X_pow_dvd_errorLocator_mul (e : Codeword) :
    X ^ 6 ∣ errorLocator e * listPoly (syndromeValues e).toList + derivative (errorLocator e) := by
  have hterm {j : Nat} (hj : j ∈ errorPlaces e) :
      X ^ 6 ∣ errorLocator e * errorSyndromes (alphaRoot ^ j) +
        (∏ i ∈ (errorPlaces e).erase j, (X - C (alphaRoot ^ i)⁻¹)) * derivative (X - C (alphaRoot ^ j)⁻¹) := by
    refine ⟨(∏ i ∈ (errorPlaces e).erase j, (X - C (alphaRoot ^ i)⁻¹)) * C ((alphaRoot ^ j) ^ 6), ?_⟩
    rw [errorLocator, ← Finset.mul_prod_erase _ _ hj, derivative_X_sub_C]
    linear_combination (∏ i ∈ (errorPlaces e).erase j, (X - C (alphaRoot ^ i)⁻¹)) *
      X_sub_C_mul_errorSyndromes (pow_ne_zero j alphaRoot_ne_zero)
  rw [listPoly_syndromeValues, Finset.mul_sum]
  nth_rw 2 [errorLocator]
  rw [derivative_prod_finset, ← Finset.sum_add_distrib]
  exact Finset.dvd_sum fun j hj => hterm hj

/-- The locator has no repeated root. -/
theorem separable_errorLocator (e : Codeword) : (errorLocator e).Separable := by
  refine separable_prod_X_sub_C_iff'.2 fun i hi j hj h => ?_
  exact alphaRoot_pow_inj (mem_errorPlaces.1 hi).1 (mem_errorPlaces.1 hj).1 (inv_injective h)

/-- The locator is monic. -/
theorem monic_errorLocator (e : Codeword) : (errorLocator e).Monic := monic_prod_X_sub_C _ _

/-- The degree of the locator is the number of errors. -/
theorem natDegree_errorLocator (e : Codeword) : (errorLocator e).natDegree = weight e := by
  rw [errorLocator, natDegree_finsetProd_X_sub_C_eq_card, card_errorPlaces]

/-- The roots of the locator are the inverses of the error places. -/
theorem eval_errorLocator_eq_zero_iff (e : Codeword) {j : Nat} (hj : j < 15) :
    (errorLocator e).eval (alphaRoot ^ j)⁻¹ = 0 ↔ e.getLsbD j = true := by
  rw [errorLocator, eval_prod, Finset.prod_eq_zero_iff]
  constructor
  · rintro ⟨i, hi, hroot⟩
    obtain ⟨hi15, hbit⟩ := mem_errorPlaces.1 hi
    rw [eval_sub, eval_X, eval_C, sub_eq_zero] at hroot
    rwa [alphaRoot_pow_inj hj hi15 (inv_injective hroot)]
  · intro hbit
    exact ⟨j, mem_errorPlaces.2 ⟨hj, hbit⟩, by simp⟩

/-- The locator is not 0 at 0. -/
theorem coeff_zero_errorLocator_ne_zero (e : Codeword) : (errorLocator e).coeff 0 ≠ 0 := by
  rw [coeff_zero_eq_eval_zero, errorLocator, eval_prod]
  refine Finset.prod_ne_zero_iff.2 fun j _ => ?_
  rw [eval_sub, eval_X, eval_C, zero_sub]
  exact neg_ne_zero.2 (inv_ne_zero (pow_ne_zero j alphaRoot_ne_zero))

/-! ### The solver on the syndromes of an error mask -/

section
variable {F : Type} [Field F] [CharP F 2] {f m l r a d : F[X]}

/-- Two solutions of a key equation whose degrees are low are proportional: their cross products agree. -/
theorem cross_eq_of_keyEquation (hm : X ^ 6 ∣ m * f + derivative m) (hkey : X ^ 6 ∣ l * f + r) (hdeg : m.natDegree ≤ 3)
    (hl : l.natDegree ≤ 3) (hr : r.natDegree ≤ 2) : l * derivative m = m * r := by
  have hdvd : X ^ 6 ∣ l * derivative m + m * r := by
    have hsum : l * derivative m + m * r = l * (m * f + derivative m) + m * (l * f + r) := by
      linear_combination -CharTwo.add_self_eq_zero (l * m * f)
    exact hsum ▸ dvd_add (hm.mul_left _) (hkey.mul_left _)
  have hlow : (l * derivative m + m * r).natDegree < 6 := by
    have h1 := natDegree_mul_le (p := l) (q := derivative m)
    have h2 := natDegree_mul_le (p := m) (q := r)
    have h3 := natDegree_derivative_le m
    have h4 := natDegree_add_le (l * derivative m) (m * r)
    omega
  exact CharTwo.add_eq_zero.1 (eq_zero_of_dvd_of_natDegree_lt hdvd (by rwa [natDegree_X_pow]))

/-- A common factor of two solutions is a constant when the determinant of the second with the remaining one is `x^6`. -/
theorem isUnit_of_determinant {q : F[X]} (hm : X ^ 6 ∣ m * f + derivative m) (hswap : X ^ 6 ∣ a * f + d)
    (hdet : d * (m * q) + q * derivative m * a = X ^ 6) : IsUnit q := by
  obtain ⟨z, hz⟩ : X ^ 6 ∣ d * m + derivative m * a := by
    have hsum : d * m + derivative m * a = m * (a * f + d) + a * (m * f + derivative m) := by
      linear_combination -CharTwo.add_self_eq_zero (a * m * f)
    exact hsum ▸ dvd_add (hswap.mul_left _) (hm.mul_left _)
  have hX : (X : F[X]) ^ 6 ≠ 0 := pow_ne_zero 6 X_ne_zero
  have hone : q * z = 1 := by
    refine mul_left_cancel₀ hX ?_
    linear_combination hdet - q * hz
  exact IsUnit.of_mul_eq_one _ hone

/-- A solution of the key equation without common factors fixes the low-degree solutions with determinant `x^6` up to a constant
factor (45_key_equation.md section 6). -/
theorem exists_eq_C_mul_of_keyEquation (hm : X ^ 6 ∣ m * f + derivative m) (hsep : m.Separable) (hmonic : m.Monic)
    (hdeg : m.natDegree ≤ 3) (hkey : X ^ 6 ∣ l * f + r) (hswap : X ^ 6 ∣ a * f + d) (hdet : d * l + r * a = X ^ 6)
    (hl : l.natDegree ≤ 3) (hr : r.natDegree ≤ 2) : ∃ c ≠ 0, l = C c * m ∧ r = C c * derivative m := by
  have hcross := cross_eq_of_keyEquation hm hkey hdeg hl hr
  obtain ⟨q, rfl⟩ : m ∣ l := IsCoprime.dvd_of_dvd_mul_right hsep (Dvd.intro _ hcross.symm)
  obtain rfl : q * derivative m = r := by
    refine mul_left_cancel₀ hmonic.ne_zero ?_
    rw [← hcross, mul_assoc]
  obtain ⟨c, hc, rfl⟩ := isUnit_iff.1 (isUnit_of_determinant hm hswap hdet)
  exact ⟨c, hc.ne_zero, mul_comm .., rfl⟩

end

/-- The degree of a polynomial with at most `n + 1` coefficients. -/
theorem natDegree_listPoly_le {l : List GF16} {n : Nat} (h : l.length ≤ n + 1) : (listPoly l).natDegree ≤ n := by
  refine natDegree_le_iff_coeff_eq_zero.2 fun k hk => ?_
  rw [coeff_listPoly, List.getD_eq_default _ _ (by omega)]
  exact toField_zero

section
variable {f : Closure[X]} {ed er : ETriple} {e : Codeword}

/-- The degree of an auxiliary side is at most the number of its elements less 1. -/
theorem natDegree_auxiliary_le (e : ETriple) (h : e.split ≤ 7) : e.auxiliary.natDegree ≤ 7 - e.split :=
  natDegree_listPoly_le (by simp [extractLocator]; omega)

/-- The degree of a dividend side is at most any bound of its elements less 1. -/
theorem natDegree_dividend_le {e : ETriple} {n : Nat} (h : e.split ≤ n + 1) : e.dividend.natDegree ≤ n :=
  natDegree_listPoly_le (by simp; omega)

/-- Without an element in the last place, ER's part of the determinant has no term of degree 6. -/
theorem LoopEnd.coeff_dividend_mul_auxiliary (h : LoopEnd f ed er) : (er.dividend * er.auxiliary).coeff 6 = 0 := by
  have her := h.er_le
  have haux : er.auxiliary.natDegree ≤ 6 - er.split := by
    refine natDegree_le_iff_coeff_eq_zero.2 fun k hk => ?_
    rw [ETriple.coeff_auxiliary]
    obtain hlast | hpast := (show 7 ≤ er.split + k by omega).eq_or_lt
    · rw [← hlast, er.entry_of_lt (by decide), h.er_last]
      exact toField_zero
    · exact er.entry_of_ge hpast
  have hcoeff := coeff_mul_add_eq_of_natDegree_le (natDegree_dividend_le (e := er) (Nat.le_succ _)) haux
  rwa [Nat.add_sub_cancel' (by omega), ETriple.coeff_dividend (by omega), if_neg (lt_irrefl _), zero_mul] at hcoeff

/-- At the end of the main loop the auxiliary side of ED has its full degree: the determinant has degree 6 (R121). -/
theorem LoopEnd.natDegree_auxiliary (h : LoopEnd f ed er) : ed.auxiliary.natDegree = 7 - ed.split := by
  have hge := h.ge
  have hle := h.le
  have haux := natDegree_auxiliary_le ed hle
  have hcoeff := coeff_mul_add_eq_of_natDegree_le (natDegree_dividend_le (e := ed) (n := ed.split - 1) (by omega)) haux
  have hdet := congrArg (coeff · 6) h.det
  rw [show ed.split - 1 + (7 - ed.split) = 6 by omega] at hcoeff
  rw [coeff_add, h.coeff_dividend_mul_auxiliary, add_zero, hcoeff, coeff_X_pow_self] at hdet
  exact le_antisymm haux (le_natDegree_of_ne_zero (right_ne_zero_of_mul (hdet.trans_ne one_ne_zero)))

/-- At the end of the main loop the sides are, up to a constant, the locator of the error mask and its derivative. -/
theorem LoopEnd.exists_eq_C_mul_errorLocator (h : LoopEnd (listPoly (syndromeValues e).toList) ed er) (hw : weight e ≤ 3) :
    ∃ c ≠ 0, ed.auxiliary = C c * errorLocator e ∧ er.dividend = C c * derivative (errorLocator e) := by
  have hge := h.ge
  have her := h.er_le
  have hdeg := natDegree_errorLocator e
  exact exists_eq_C_mul_of_keyEquation (X_pow_dvd_errorLocator_mul e) (separable_errorLocator e) (monic_errorLocator e)
    (hdeg.trans_le hw) h.key h.key_swap h.det ((natDegree_auxiliary_le ed h.le).trans (by omega))
    (natDegree_dividend_le (by omega))

/-- At the end of the main loop on up to three errors the size of the locator is one more than their number, and the checks pass
(R121, R122). -/
theorem LoopEnd.checks_pass (h : LoopEnd (listPoly (syndromeValues e).toList) ed er) (hw : weight e ≤ 3) :
    8 - ed.split = weight e + 1 ∧ locatorFails er (extractLocator ed) = false := by
  have hle := h.le
  have her := h.er_le
  obtain ⟨c, hc, haux, hdiv⟩ := h.exists_eq_C_mul_errorLocator hw
  have hsize : 7 - ed.split = weight e := by
    rw [← h.natDegree_auxiliary, haux, natDegree_C_mul hc, natDegree_errorLocator]
  have hshort : er.split ≤ weight e := by
    refine split_le_of_coeff_dividend (by omega) h.er_lead fun k hk => ?_
    have hzero : (errorLocator e).coeff (k + 1) = 0 :=
      coeff_eq_zero_of_natDegree_lt (by rw [natDegree_errorLocator]; omega)
    rw [hdiv, coeff_C_mul, coeff_derivative, hzero, zero_mul, mul_zero]
  have hlead : (extractLocator ed).head? ≠ some 0 := by
    intro hzero
    have hcoeff : ed.auxiliary.coeff 0 = toField 0 := by
      rw [ETriple.auxiliary, coeff_listPoly, List.getD_eq_getElem?_getD, ← List.head?_eq_getElem?, hzero]
      rfl
    rw [haux, coeff_C_mul, (toField_eq_zero_iff 0).2 rfl] at hcoeff
    exact mul_ne_zero hc (coeff_zero_errorLocator_ne_zero e) hcoeff
  refine ⟨by omega, ?_⟩
  rw [locatorFails, Bool.or_eq_false_iff, decide_eq_false_iff_not, beq_eq_false_iff_ne]
  exact ⟨by rw [extractLocator, List.length_drop, Vector.length_toList]; omega, hlead⟩

end

/-- On the syndromes of up to three errors the solver's locator is their locator, up to a constant, with one coefficient more than there
are errors. -/
theorem exists_keysolve_syndromeValues {e : Codeword} (hw : weight e ≤ 3) :
    ∃ l, keysolve Tables.built (syndromeValues e) = some l ∧ l.uncorrectable = false ∧ l.coeffs.length = weight e + 1 ∧
      ∃ c ≠ 0, listPoly l.coeffs = C c * errorLocator e := by
  obtain ⟨ed, er, l, hend, hl, hcase⟩ := exists_keysolve_loopEnd (syndromeValues e)
  obtain ⟨hsize, hok⟩ := hend.checks_pass hw
  obtain ⟨hfails, -⟩ | ⟨-, hu, hlen, -, c, hc, haux⟩ := hcase
  · exact absurd (hfails.symm.trans hok) (by decide)
  · obtain ⟨c', hc', haux', -⟩ := hend.exists_eq_C_mul_errorLocator hw
    refine ⟨l, hl, hu, hlen.trans hsize, c⁻¹ * c', mul_ne_zero (inv_ne_zero hc) hc', ?_⟩
    have hinv : C c⁻¹ * C c = 1 := by rw [← C_mul, inv_mul_cancel₀ hc, C_1]
    rw [C_mul, mul_assoc, ← haux', haux, ← mul_assoc, hinv, one_mul]

/-! ### The roots of the locator -/

/-- One more coefficient at the end. -/
theorem listPoly_concat (l : List GF16) (c : GF16) : listPoly (l ++ [c]) = listPoly l + C (toField c) * X ^ l.length := by
  ext k
  rw [coeff_listPoly, coeff_add, coeff_listPoly, coeff_C_mul_X_pow]
  obtain hk | rfl | hk := lt_trichotomy k l.length
  · rw [List.getD_append _ _ _ _ hk, if_neg hk.ne, add_zero]
  · simp
  · rw [List.getD_eq_default _ _ (by simp; omega), List.getD_eq_default _ _ hk.le, if_neg hk.ne', add_zero]

/-- Horner's method reads the coefficients from the leading one, so that it evaluates at the inverse (R121, R130). -/
theorem toField_mul_fieldEval (l : List GF16) {x : GF16} (hx : x ≠ 0) :
    toField x * toField (fieldEval l x) = toField x ^ l.length * (listPoly l).eval (toField x)⁻¹ := by
  have hx' : toField x ≠ 0 := (toField_eq_zero_iff x).not.2 hx
  induction l using List.reverseRecOn with
  | nil =>
    have hzero : fieldEval [] x = 0 := rfl
    rw [hzero, (toField_eq_zero_iff 0).2 rfl]
    simp
  | append_singleton l c ih =>
    have hstep : fieldEval (l ++ [c]) x = fieldProduct (fieldEval l x) x ^^^ c := by
      rw [fieldEval, List.foldl_concat]
      rfl
    rw [hstep, toField_xor, toField_fieldProduct, listPoly_concat, eval_add, eval_mul, eval_C, eval_pow, eval_X,
      List.length_append, List.length_singleton, pow_succ, inv_pow]
    have hpow := mul_inv_cancel₀ (pow_ne_zero l.length hx')
    linear_combination toField x * ih - toField x * toField c * hpow

/-- A power of `α` is a root of the emitted coefficients exactly when its inverse is one of the polynomial (R121, R130). -/
theorem fieldEval_eq_zero_iff (l : List GF16) (j : Nat) :
    fieldEval l (fieldPower 2 j) = 0 ↔ (listPoly l).eval (alphaRoot ^ j)⁻¹ = 0 := by
  have hne : alphaRoot ^ j ≠ 0 := pow_ne_zero j alphaRoot_ne_zero
  have h := toField_mul_fieldEval l (fieldPower_ne_zero (by decide : (2 : GF16) ≠ 0) j)
  rw [toField_fieldPower_two] at h
  rw [← toField_eq_zero_iff, ← mul_eq_zero_iff_left hne, h, mul_eq_zero_iff_left (pow_ne_zero l.length hne)]

/-- The root exponents of a multiple of the errors' locator are the error places (R131). -/
theorem rootExponents_eq {l : List GF16} {e : Codeword} {c : Closure} (hc : c ≠ 0)
    (h : listPoly l = C c * errorLocator e) : rootExponents l = (List.range 15).filter fun j => e.getLsbD j := by
  refine List.filter_congr fun j hj => ?_
  rw [Bool.eq_iff_iff, beq_iff_eq, fieldEval_eq_zero_iff, h, eval_mul, eval_C, mul_eq_zero_iff_left hc,
    eval_errorLocator_eq_zero_iff e (List.mem_range.1 hj)]

/-! ### Correction of up to three errors -/

/-- In a run DECODE completes with the word corrected at the locator's offsets (R136, R137). -/
theorem decode_completes {s : State} (hready : s.Ready) (r : Codeword) {l : Locator}
    (hl : keysolve Tables.built (syndromeValues r) = some l) (h4 : l.coeffs.length ≤ 4)
    (hfail : l.uncorrectable = true → l.coeffs = [1]) :
    Completes (.decode (port r) 0) s (port (correctBits r (rootOffsets l.coeffs).positions))
      (BitVec.ofNat 64 ((l.uncorrectable || (rootOffsets l.coeffs).uncorrectable).toNat +
        16 * (rootOffsets l.coeffs).positions.length)) := by
  rw [Completes, exec_decode_port hready.2, hready.tables_eq, decodeReceived_built r hl hfail,
    ← decodeFlags_eq _ (length_rootOffsets_le h4)]
  rfl

/-- Exponents below 15 keep apart as offsets. -/
theorem count_map_ofNat {js : List Nat} (hjs : ∀ j ∈ js, j < 15) {k : Nat} (hk : k < 15) :
    (js.map (BitVec.ofNat 4)).count (BitVec.ofNat 4 k) = js.count k := by
  rw [List.count, List.countP_map, List.count]
  refine List.countP_congr fun j hj => ?_
  have hj15 := hjs j hj
  rw [Function.comp_apply, beq_iff_eq, beq_iff_eq, ← BitVec.toNat_inj, BitVec.toNat_ofNat, BitVec.toNat_ofNat]
  omega

/-- A bit of a word corrected at places that are all different is flipped when its place is one of them (R134). -/
theorem getLsbD_correctBits_map_ofNat (w : Codeword) {js : List Nat} (hnodup : js.Nodup) (hjs : ∀ j ∈ js, j < 15) {k : Nat}
    (hk : k < 15) : (correctBits w (js.map (BitVec.ofNat 4))).getLsbD k = (w.getLsbD k ^^ decide (k ∈ js)) := by
  rw [getLsbD_correctBits w _ hk, count_map_ofNat hjs hk, hnodup.count]
  by_cases hmem : k ∈ js <;> simp [hmem]

/-- Correction at the places of an error mask is the exclusive-or with the mask (R134). -/
theorem correctBits_errorMask (w e : Codeword) :
    correctBits w (((List.range 15).filter fun j => e.getLsbD j).map (BitVec.ofNat 4)) = w ^^^ e := by
  refine BitVec.eq_of_getLsbD_eq fun k hk => ?_
  rw [getLsbD_correctBits_map_ofNat w (List.nodup_range.filter _)
    (fun j hj => List.mem_range.1 (List.mem_of_mem_filter hj)) hk, BitVec.getLsbD_xor]
  simp [hk]

/-- Codewords do not show in the syndromes (R112, R113). -/
theorem syndromeValues_codewordOf_xor (m : Msg) (e : Codeword) : syndromeValues (codewordOf m ^^^ e) = syndromeValues e := by
  refine Vector.ext fun j hj => ?_
  rw [getElem_syndromeValues, getElem_syndromeValues, wordEval_xor, wordEval_codewordOf m hj]
  exact BitVec.zero_xor

/-- In a run DECODE corrects every mask of up to three errors (R138, R139). -/
theorem decode_codewordOf_xor_completes {s : State} (hready : s.Ready) (m : Msg) {e : Codeword} (hw : weight e ≤ 3) :
    Completes (.decode (port (codewordOf m ^^^ e)) 0) s (port (codewordOf m)) (BitVec.ofNat 64 (16 * weight e)) := by
  obtain ⟨l, hl, hu, hlen, c, hc, hpoly⟩ := exists_keysolve_syndromeValues hw
  rw [← syndromeValues_codewordOf_xor m e] at hl
  have hroots := rootExponents_eq hc hpoly
  have hcount : (rootExponents l.coeffs).length = l.coeffs.length - 1 := by
    rw [hroots, hlen, Nat.add_sub_cancel, weight]
  have hoffsets := rootOffsets_of_enough hcount.ge
  rw [← hcount, List.take_length, hroots] at hoffsets
  have hdone := decode_completes hready _ hl (by omega) (fun h => absurd (h.symm.trans hu) (by decide))
  have hlength : (((List.range 15).filter fun j => e.getLsbD j).map (BitVec.ofNat 4)).length = weight e :=
    List.length_map ..
  rwa [hoffsets, hu, correctBits_errorMask, BitVec.xor_assoc, BitVec.xor_self, BitVec.xor_zero, hlength, Bool.or_self,
    Bool.toNat_false, Nat.zero_add] at hdone

/-- Settles O51: the locator of the errors has their places as roots, and correction there gives the codeword back. -/
theorem decodeCorrectsUpToThreeErrors : Obligations.DecodeCorrectsUpToThreeErrors := by
  unfold Obligations.DecodeCorrectsUpToThreeErrors
  exact fun s hready m e hw => ⟨encode_completes hready m, decode_codewordOf_xor_completes hready m hw⟩

end Sys2Proof.Machine

/-! Proofs about decoding any word (46_root_correct_decode.md section 3). A word with no syndromes is a codeword, and a locator that
solves the key equation of a word and has as many roots as its degree shows an error mask with the word's syndromes; so a word with
no codeword within 3 bits is flagged. -/

namespace Sys2Proof.Machine

open Polynomial

/-! ### Words without syndromes -/

/-- The order of `α` divides 15 (R67). -/
theorem alphaRoot_pow_fifteen : alphaRoot ^ 15 = 1 := by
  have hpower : fieldPower 2 15 = 1#4 := by decide +kernel
  rw [← toField_fieldPower_two, hpower, toField_one]

/-- A word of degree below 10 that is 0 at the first six powers of `α` is 0 at ten powers: squaring a place squares the value (R98,
R113). -/
theorem wordValue_eq_zero_at_ten {d : Codeword} (hroot : ∀ j < 6, wordValue d (alphaRoot ^ (j + 1)) = 0) :
    ∀ i ∈ ({1, 2, 3, 4, 5, 6, 8, 9, 10, 12} : Finset Nat), wordValue d (alphaRoot ^ i) = 0 := by
  have hdouble (i : Nat) (h : wordValue d (alphaRoot ^ i) = 0) : wordValue d (alphaRoot ^ (i * 2)) = 0 := by
    rw [pow_mul, wordValue_sq, h, zero_pow two_ne_zero]
  have htwelve := hdouble 6 (hroot 5 (by decide))
  have hnine : wordValue d (alphaRoot ^ 9) = 0 := by
    rw [← mul_one (alphaRoot ^ 9), ← alphaRoot_pow_fifteen, ← pow_add]
    exact hdouble 12 htwelve
  simp only [Finset.forall_mem_insert, Finset.mem_singleton, forall_eq]
  exact ⟨hroot 0 (by decide), hroot 1 (by decide), hroot 2 (by decide), hroot 3 (by decide), hroot 4 (by decide),
    hroot 5 (by decide), hdouble 4 (hroot 3 (by decide)), hnine, hdouble 5 (hroot 4 (by decide)), htwelve⟩

/-- A word of degree below 10 that is 0 at the first six powers of `α` is 0 (R98). -/
theorem eq_zero_of_wordValue_eq_zero {d : Codeword} (hlow : ∀ k, 10 ≤ k → d.getLsbD k = false)
    (hroot : ∀ j < 6, wordValue d (alphaRoot ^ (j + 1)) = 0) : d = 0 := by
  classical
  have hinj : Set.InjOn (alphaRoot ^ ·) (({1, 2, 3, 4, 5, 6, 8, 9, 10, 12} : Finset Nat) : Set Nat) := by
    have hlt : ∀ i ∈ ({1, 2, 3, 4, 5, 6, 8, 9, 10, 12} : Finset Nat), i < 15 := by decide
    exact fun i hi j hj h => alphaRoot_pow_inj (hlt i hi) (hlt j hj) h
  have hdegree : ((toPoly d).map (algebraMap (ZMod 2) Closure)).natDegree < 10 := by
    refine natDegree_map_le.trans_lt (Nat.lt_succ_of_le (natDegree_le_iff_coeff_eq_zero.2 fun k hk => ?_))
    rw [coeff_toPoly, hlow k hk, gf2_false]
  have hmap : (toPoly d).map (algebraMap (ZMod 2) Closure) = 0 := by
    refine eq_zero_of_natDegree_lt_card_of_eval_eq_zero' _ (Finset.image (alphaRoot ^ ·) {1, 2, 3, 4, 5, 6, 8, 9, 10, 12})
      (Finset.forall_mem_image.2 fun i hi => ?_) ?_
    · rw [eval_map_algebraMap]
      exact wordValue_eq_zero_at_ten hroot i hi
    · rw [Finset.card_image_of_injOn hinj]
      exact hdegree
  exact toPoly_injective (((Polynomial.map_eq_zero _).1 hmap).trans toPoly_zero.symm)

/-- A word without syndromes is the codeword of its five upper bits: the two differ in lower bits, and neither has syndromes (R112). -/
theorem exists_eq_codewordOf {r : Codeword} (h : ∀ j < 6, wordEval r (fieldPower 2 (j + 1)) = 0) :
    ∃ m, r = codewordOf m := by
  refine ⟨r.extractLsb' 10 5, BitVec.xor_eq_zero_iff.1 (eq_zero_of_wordValue_eq_zero (fun k hk => ?_) fun j hj => ?_)⟩
  · have htop : (codewordOf (r.extractLsb' 10 5)).toNat / 2 ^ 10 = r.toNat / 2 ^ 10 := by
      have hr := r.isLt
      rw [codewordOf_toNat_div, BitVec.extractLsb'_toNat, Nat.shiftRight_eq_div_pow]
      omega
    have hbit := congrArg (Nat.testBit · (k - 10)) htop
    rw [Nat.testBit_div_two_pow, Nat.testBit_div_two_pow, Nat.sub_add_cancel hk] at hbit
    rw [BitVec.getLsbD_xor, BitVec.getLsbD, BitVec.getLsbD, hbit, Bool.xor_self]
  · rw [← toField_fieldPower_two, ← toField_wordEval, wordEval_xor, h j hj, wordEval_codewordOf _ hj]
    exact toField_zero

/-! ### Sequences with a recurrence -/

section
variable {F : Type} [Field F] {n : Nat} {l f : F[X]}

/-- A polynomial whose product with one of constant coefficient 1 has no term from `n` to 5, and which has none itself below `n`, has
no term below 6. -/
theorem coeff_eq_zero_of_mul (hone : l.coeff 0 = 1) (hlow : ∀ k < n, f.coeff k = 0)
    (hmul : ∀ k, n ≤ k → k < 6 → (l * f).coeff k = 0) (k : Nat) (hk : k < 6) : f.coeff k = 0 := by
  induction k using Nat.strong_induction_on with
  | _ k ih =>
    obtain hkn | hkn := Nat.lt_or_ge k n
    · exact hlow k hkn
    · have hcoeff := hmul k hkn hk
      rw [coeff_mul, Finset.sum_eq_single (0, k)] at hcoeff
      · rwa [hone, one_mul] at hcoeff
      · rintro ⟨i, j⟩ hij hne
        have hsum : i + j = k := Finset.HasAntidiagonal.mem_antidiagonal.1 hij
        have hj : j ≠ k := fun h => hne (Prod.ext (by dsimp only; omega) h)
        rw [ih j (by omega) (by omega), mul_zero]
      · exact fun h => absurd (Finset.HasAntidiagonal.mem_antidiagonal.2 (Nat.zero_add k)) h

/-- The first six powers of an element, as coefficients. -/
noncomputable def powers (x : F) : F[X] := ∑ k ∈ Finset.range 6, monomial k (x ^ k)

/-- The coefficients are the powers. -/
theorem coeff_powers (x : F) {k : Nat} (hk : k < 6) : (powers x).coeff k = x ^ k := by
  simp only [powers, finsetSum_coeff, coeff_monomial, Finset.sum_ite_eq', Finset.mem_range]
  rw [if_pos hk]

/-- The powers of the inverse of a root satisfy the recurrence of the polynomial. -/
theorem coeff_mul_powers {x : F} (hx : x ≠ 0) (hroot : l.eval x⁻¹ = 0) (hdeg : l.natDegree ≤ n) {k : Nat} (hn : n ≤ k)
    (hk : k < 6) : (l * powers x).coeff k = 0 := by
  have hsum : (l * powers x).coeff k = x ^ k * l.eval x⁻¹ := by
    rw [coeff_mul, Finset.Nat.sum_antidiagonal_eq_sum_range_succ fun i j => l.coeff i * (powers x).coeff j,
      eval_eq_sum_range' (n := k + 1) (by omega), Finset.mul_sum]
    refine Finset.sum_congr rfl fun i hi => ?_
    have hik : i ≤ k := Nat.lt_succ_iff.1 (Finset.mem_range.1 hi)
    rw [coeff_powers x (by omega), inv_pow, ← pow_sub_mul_pow x hik]
    field_simp
  rw [hsum, hroot, mul_zero]

/-- Any first `n` values are sums of powers of `n` different elements, with weights. -/
theorem exists_weights {x : Fin n → F} (hx : Function.Injective x) (v : Fin n → F) :
    ∃ a : Fin n → F, ∀ k : Fin n, ∑ i, a i * x i ^ (k : Nat) = v k := by
  have hunit : IsUnit (Matrix.vandermonde x) :=
    (Matrix.isUnit_iff_isUnit_det _).2 (Matrix.det_vandermonde_ne_zero_iff.2 hx).isUnit
  obtain ⟨a, ha⟩ := Matrix.vecMul_surjective_iff_isUnit.2 hunit v
  exact ⟨a, fun k => congrFun ha k⟩

/-- Coefficients with the recurrence of a polynomial are sums of powers of the inverses of its roots, with weights, when there are as
many roots as the degree. -/
theorem exists_weights_of_recurrence {x : Fin n → F} (hx : Function.Injective x) (hne : ∀ i, x i ≠ 0)
    (hone : l.coeff 0 = 1) (hdeg : l.natDegree ≤ n) (hroot : ∀ i, l.eval (x i)⁻¹ = 0)
    (hn : n ≤ 6) (hmul : ∀ k, n ≤ k → k < 6 → (l * f).coeff k = 0) :
    ∃ a : Fin n → F, ∀ k < 6, f.coeff k = ∑ i, a i * x i ^ k := by
  obtain ⟨a, ha⟩ := exists_weights hx fun k => f.coeff k
  have hsum {k : Nat} (hk : k < 6) : (∑ i, C (a i) * powers (x i)).coeff k = ∑ i, a i * x i ^ k := by
    rw [finsetSum_coeff]
    exact Finset.sum_congr rfl fun i _ => by rw [coeff_C_mul, coeff_powers _ hk]
  have hlow : ∀ k < n, (f - ∑ i, C (a i) * powers (x i)).coeff k = 0 := fun k hk => by
    rw [coeff_sub, hsum (by omega), ha ⟨k, hk⟩, sub_self]
  have hdiff : ∀ k, n ≤ k → k < 6 → (l * (f - ∑ i, C (a i) * powers (x i))).coeff k = 0 := by
    intro k hn hk
    rw [mul_sub, Finset.mul_sum, coeff_sub, hmul k hn hk, finsetSum_coeff, zero_sub, neg_eq_zero]
    refine Finset.sum_eq_zero fun i _ => ?_
    rw [mul_left_comm, coeff_C_mul, coeff_mul_powers (hne i) (hroot i) hdeg hn hk, mul_zero]
  refine ⟨a, fun k hk => ?_⟩
  have hzero := coeff_eq_zero_of_mul hone hlow hdiff k hk
  rwa [coeff_sub, hsum hk, sub_eq_zero] at hzero

/-- When the coefficients at odd places are squares, as those of a binary word's syndromes are, each weight is 0 or its element. -/
theorem weight_eq_zero_or_eq [CharP F 2] {x a : Fin n → F} (hx : Function.Injective x) (hn : n ≤ 3)
    (hsum : ∀ k < 6, f.coeff k = ∑ i, a i * x i ^ k) (hsq : ∀ k < 3, f.coeff (2 * k + 1) = f.coeff k ^ 2) (i : Fin n) :
    a i = 0 ∨ a i = x i := by
  have hzero : (fun i => a i * (x i + a i)) = 0 := by
    refine Matrix.eq_zero_of_forall_pow_sum_mul_pow_eq_zero (f := fun i => x i ^ 2)
      (fun i j h => hx (CharTwo.sq_injective h)) fun k => ?_
    have hk := k.isLt
    have h := hsq k (by omega)
    rw [hsum _ (by omega), hsum _ (by omega), CharTwo.sum_sq, ← CharTwo.add_eq_zero, ← Finset.sum_add_distrib] at h
    rw [← h]
    exact Finset.sum_congr rfl fun i _ => by ring
  exact (mul_eq_zero.1 (congrFun hzero i)).imp id fun h => (CharTwo.add_eq_zero.1 h).symm

end

/-! ### Errors shown by a locator -/

/-- Every set of places is that of an error mask. -/
theorem exists_errorPlaces_eq {places : Finset Nat} (h : ∀ j ∈ places, j < 15) : ∃ e, errorPlaces e = places := by
  refine ⟨correctBits 0 (places.toList.map (BitVec.ofNat 4)), Finset.ext fun j => ?_⟩
  rw [mem_errorPlaces]
  have hbit (hj : j < 15) := getLsbD_correctBits_map_ofNat 0 places.nodup_toList
    (fun j hj => h j (Finset.mem_toList.1 hj)) hj
  constructor
  · rintro ⟨hj, hset⟩
    rw [hbit hj] at hset
    simpa using hset
  · intro hj
    refine ⟨h j hj, ?_⟩
    rw [hbit (h j hj)]
    simpa using hj

/-- Sums of powers with weights that are 0 or their element are the values of an error mask, of at most `n` errors. -/
theorem exists_errorMask {n : Nat} {place : Fin n → Nat} (hplace : Function.Injective place) (hlt : ∀ i, place i < 15)
    {a : Fin n → Closure} (ha : ∀ i, a i = 0 ∨ a i = alphaRoot ^ place i) :
    ∃ e, weight e ≤ n ∧ ∀ k, wordValue e (alphaRoot ^ (k + 1)) = ∑ i, a i * (alphaRoot ^ place i) ^ k := by
  classical
  set chosen := Finset.univ.filter fun i => a i ≠ 0
  obtain ⟨e, he⟩ := exists_errorPlaces_eq (places := chosen.image place) fun j hj => by
    obtain ⟨i, -, rfl⟩ := Finset.mem_image.1 hj
    exact hlt i
  refine ⟨e, ?_, fun k => ?_⟩
  · rw [← card_errorPlaces, he]
    exact Finset.card_image_le.trans ((Finset.card_filter_le _ _).trans (Finset.card_fin n).le)
  · rw [wordValue_eq_sum, he, Finset.sum_image fun i _ j _ h => hplace h, Finset.sum_filter]
    refine Finset.sum_congr rfl fun i _ => ?_
    obtain hzero | hself := ha i
    · rw [if_neg (not_not.2 hzero), hzero, zero_mul]
    · rw [if_pos (hself ▸ pow_ne_zero _ alphaRoot_ne_zero), hself, ← pow_succ', ← pow_mul, ← pow_mul, mul_comm]

/-- The syndromes of a word, as coefficients (R110). -/
theorem coeff_listPoly_syndromeValues (r : Codeword) {k : Nat} (hk : k < 6) :
    (listPoly (syndromeValues r).toList).coeff k = wordValue r (alphaRoot ^ (k + 1)) := by
  rw [coeff_listPoly, List.getD_eq_getElem _ _ (by simpa using hk), Vector.getElem_toList, getElem_syndromeValues,
    toField_wordEval, toField_fieldPower_two]

/-- The scan of ROOTFIND finds different places whose inverses are roots (R131). -/
theorem exists_rootPlaces {l : List GF16} {n : Nat} (h : n ≤ (rootExponents l).length) :
    ∃ place : Fin n → Nat, Function.Injective place ∧ (∀ i, place i < 15) ∧
      ∀ i, (listPoly l).eval (alphaRoot ^ place i)⁻¹ = 0 := by
  have hnodup : (rootExponents l).Nodup := List.nodup_range.filter _
  have hmem (i : Fin n) : (rootExponents l)[i.val] ∈ rootExponents l := List.getElem_mem _
  refine ⟨fun i => (rootExponents l)[i.val], fun i j hij => ?_, fun i => lt_of_mem_rootExponents (hmem i), fun i => ?_⟩
  · exact Fin.ext ((hnodup.getElem_inj_iff).1 hij)
  · have hroot := (List.mem_filter.1 (hmem i)).2
    rwa [beq_iff_eq, fieldEval_eq_zero_iff] at hroot

/-- A locator without failure that has enough roots shows an error mask of up to three errors with the syndromes of the word. -/
theorem exists_errorMask_of_locator {r : Codeword} {l : Locator} (hl : keysolve Tables.built (syndromeValues r) = some l)
    (hu : l.uncorrectable = false) (henough : l.coeffs.length - 1 ≤ (rootExponents l.coeffs).length) :
    ∃ e, weight e ≤ 3 ∧ ∀ k < 6, wordValue e (alphaRoot ^ (k + 1)) = wordValue r (alphaRoot ^ (k + 1)) := by
  obtain ⟨hlead, h4, m, -, hm, hkey⟩ := keysolve_keyEquation hl hu
  obtain ⟨place, hplace, hlt, hroot⟩ := exists_rootPlaces henough
  have hx : Function.Injective fun i => alphaRoot ^ place i := fun i j h =>
    hplace (alphaRoot_pow_inj (hlt i) (hlt j) h)
  have hone : (listPoly l.coeffs).coeff 0 = 1 := by
    rw [coeff_listPoly, List.getD_eq_getElem?_getD, ← List.head?_eq_getElem?, hlead]
    exact toField_one
  obtain ⟨a, ha⟩ := exists_weights_of_recurrence hx (fun i => pow_ne_zero _ alphaRoot_ne_zero) hone
    (natDegree_listPoly_le (by omega)) hroot (by omega) fun k hn hk => hkey k (by omega) hk
  have hsquare : ∀ k < 3, (listPoly (syndromeValues r).toList).coeff (2 * k + 1) =
      (listPoly (syndromeValues r).toList).coeff k ^ 2 := fun k hk => by
    rw [coeff_listPoly_syndromeValues r (by omega), coeff_listPoly_syndromeValues r (by omega), ← wordValue_sq, ← pow_mul,
      Nat.mul_comm (k + 1), Nat.mul_succ]
  obtain ⟨e, hweight, hvalues⟩ := exists_errorMask hplace hlt
    fun i => weight_eq_zero_or_eq hx (by omega) ha hsquare i
  refine ⟨e, hweight.trans (by omega), fun k hk => ?_⟩
  rw [hvalues, ← ha k hk, coeff_listPoly_syndromeValues r hk]

/-- A word whose locator has no failure and enough roots has a codeword within 3 bits (R139). -/
theorem exists_codewordOf_near {r : Codeword} {l : Locator} (hl : keysolve Tables.built (syndromeValues r) = some l)
    (hu : l.uncorrectable = false) (henough : l.coeffs.length - 1 ≤ (rootExponents l.coeffs).length) :
    ∃ m, weight (r ^^^ codewordOf m) ≤ 3 := by
  obtain ⟨e, hweight, hvalues⟩ := exists_errorMask_of_locator hl hu henough
  obtain ⟨m, hm⟩ := exists_eq_codewordOf (r := r ^^^ e) fun j hj => by
    rw [← toField_eq_zero_iff, toField_wordEval, toField_fieldPower_two, wordValue_xor, hvalues j hj,
      CharTwo.add_self_eq_zero]
  refine ⟨m, ?_⟩
  rwa [← hm, ← BitVec.xor_assoc, BitVec.xor_self, BitVec.zero_xor]

/-- In a run DECODE gives back a word that has no codeword within 3 bits, flagged, with no errors found (R138, R139). -/
theorem decode_far_completes {s : State} (hready : s.Ready) {r : Codeword} (hfar : ∀ m, 3 < weight (r ^^^ codewordOf m)) :
    Completes (.decode (port r) 0) s (port r) 1 := by
  obtain ⟨l, hl, -, h4, hfail⟩ := exists_keysolve_built (syndromeValues r)
  have hdone := decode_completes hready r hl h4 hfail
  have hnone : (rootOffsets l.coeffs).positions = [] ∧ (l.uncorrectable || (rootOffsets l.coeffs).uncorrectable) = true := by
    cases hu : l.uncorrectable with
    | true =>
      rw [hfail hu, rootOffsets_one]
      exact ⟨rfl, rfl⟩
    | false =>
      obtain hfew | henough := Nat.lt_or_ge (rootExponents l.coeffs).length (l.coeffs.length - 1)
      · rw [rootOffsets_of_few hfew]
        exact ⟨rfl, rfl⟩
      · obtain ⟨m, hm⟩ := exists_codewordOf_near hl hu henough
        exact absurd hm (Nat.not_le.2 (hfar m))
  obtain ⟨hpositions, hflag⟩ := hnone
  rwa [hpositions, hflag] at hdone

/-- Settles O52: a word with a codeword within 3 bits is that codeword and an error mask, and any other word is flagged. -/
theorem decodeIsBoundedDistanceDecoding : Obligations.DecodeIsBoundedDistanceDecoding := by
  unfold Obligations.DecodeIsBoundedDistanceDecoding
  intro s hready r
  by_cases hnear : ∃ m, weight (r ^^^ codewordOf m) ≤ 3
  · obtain ⟨m, hm⟩ := hnear
    have hsplit : codewordOf m ^^^ (r ^^^ codewordOf m) = r := by
      rw [BitVec.xor_comm r, ← BitVec.xor_assoc, BitVec.xor_self, BitVec.zero_xor]
    have hdone := decode_codewordOf_xor_completes hready m hm
    rw [hsplit] at hdone
    exact .inl ⟨m, _, hm, rfl, hdone⟩
  · have hfar : ∀ m, 3 < weight (r ^^^ codewordOf m) := fun m => Nat.lt_of_not_le fun hm => hnear ⟨m, hm⟩
    exact .inr ⟨hfar, decode_far_completes hready hfar⟩

end Sys2Proof.Machine
